-- ==== Sys2Proof/Word.lean ====
section
/-! DEFINITION. The machine's two word sizes (R6, R8 of spec/00_scope.md). -/

namespace Sys2Proof

/-- A byte: the data word and the addressable unit (R6). -/
abbrev Byte := BitVec 8

/-- A word: a register pair, SP, PC or an address (R6). -/
abbrev Word := BitVec 16

end Sys2Proof
end

