-- ==== Sys2Proof/Machine/Bits.lean ====
section
/-! DEFINITION. Byte order, extension and single-bit helpers (R8, R9), and the set of unmapped bytes (R99). -/

namespace Sys2Proof

/-- `w[15:8]` (R8). -/
def hiByte (w : Word) : Byte := w.extractLsb' 8 8

/-- `w[7:0]` (R8). -/
def loByte (w : Word) : Byte := w.extractLsb' 0 8

/-- `hi ++ lo`, the word `hi * 256 + lo` (R8). -/
def joinBytes (hi lo : Byte) : Word := hi ++ lo

/-- `sext_16` (R9): bit 7 copied into bits 15..8. -/
def sext16 (b : Byte) : Word := b.signExtend 16

/-- `zext_16` (R9). -/
def zext16 (b : Byte) : Word := b.setWidth 16

/-- `bool(b)` (R8) as a byte. -/
def bitByte (b : Bool) : Byte := if b then 1 else 0

/-- The eleven unprefixed bytes with no descriptor (R99 of spec/30_encoding.md). -/
def unmappedBytes : List Byte :=
  [0xD3, 0xDB, 0xDD, 0xE3, 0xE4, 0xEB, 0xEC, 0xED, 0xF4, 0xFC, 0xFD]

end Sys2Proof
end

