-- ==== Sys2Proof/Machine/Selectors.lean ====
section
/-! DEFINITION. The operand selectors of R10 (spec/00_scope.md) and R97 (spec/30_encoding.md), in the order of their codes,
and the codes themselves (R94). -/

namespace Sys2Proof

/-- `r8`: codes 0..7; `hlInd` is `(HL)`. -/
inductive R8 where
  | b | c | d | e | h | l | hlInd | a
deriving DecidableEq, Repr

/-- `r16`: codes 0..3. -/
inductive R16 where
  | bc | de | hl | sp
deriving DecidableEq, Repr

/-- `r16stk`: codes 0..3; AF where arithmetic has SP. -/
inductive R16Stk where
  | bc | de | hl | af
deriving DecidableEq, Repr

/-- `r16mem`: codes 0..3; `hlInc` is `HL+`, `hlDec` is `HL-`. -/
inductive R16Mem where
  | bc | de | hlInc | hlDec
deriving DecidableEq, Repr

/-- `cc`: codes 0..3. -/
inductive Cond where
  | nz | z | nc | c
deriving DecidableEq, Repr

/-- `alu`: codes 0..7. -/
inductive AluOp where
  | add | adc | sub | sbc | and | xor | or | cp
deriving DecidableEq, Repr

/-- `rot`: codes 0..7 of the second byte. -/
inductive RotOp where
  | rlc | rrc | rl | rr | sla | sra | swap | srl
deriving DecidableEq, Repr

def R8.ofCode (k : BitVec 3) : R8 :=
  match k.toNat with
  | 0 => .b | 1 => .c | 2 => .d | 3 => .e | 4 => .h | 5 => .l | 6 => .hlInd | _ => .a

def R16.ofCode (k : BitVec 2) : R16 :=
  match k.toNat with
  | 0 => .bc | 1 => .de | 2 => .hl | _ => .sp

def R16Stk.ofCode (k : BitVec 2) : R16Stk :=
  match k.toNat with
  | 0 => .bc | 1 => .de | 2 => .hl | _ => .af

def R16Mem.ofCode (k : BitVec 2) : R16Mem :=
  match k.toNat with
  | 0 => .bc | 1 => .de | 2 => .hlInc | _ => .hlDec

def Cond.ofCode (k : BitVec 2) : Cond :=
  match k.toNat with
  | 0 => .nz | 1 => .z | 2 => .nc | _ => .c

def AluOp.ofCode (k : BitVec 3) : AluOp :=
  match k.toNat with
  | 0 => .add | 1 => .adc | 2 => .sub | 3 => .sbc | 4 => .and | 5 => .xor | 6 => .or | _ => .cp

def RotOp.ofCode (k : BitVec 3) : RotOp :=
  match k.toNat with
  | 0 => .rlc | 1 => .rrc | 2 => .rl | 3 => .rr | 4 => .sla | 5 => .sra | 6 => .swap | _ => .srl

end Sys2Proof
end

