-- ==== Sys2Proof/Machine/Flags.lean ====
section
/-! DEFINITION. Every result and flag computation of spec/40_alu8.md, 41_alu16.md, 46_accumulator_misc.md and 47_cb_prefix.md,
on values alone. Sums and differences are exact integers, narrowed at the end, as the rules write them. -/

namespace Sys2Proof.Machine

/-- The byte F of four flags: Z = F[7], N = F[6], H = F[5], C = F[4] (R24), F[3:0] = 0 (R22). -/
def packFlags (z n h c : Bool) : Byte :=
  BitVec.ofBool z ++ BitVec.ofBool n ++ BitVec.ofBool h ++ BitVec.ofBool c ++ (0 : BitVec 4)

/-- A result byte with the four flags that go with it. -/
structure AluResult where
  value : Byte
  z : Bool
  n : Bool
  h : Bool
  c : Bool
deriving DecidableEq, Repr

/-- R121, R122: `a + v + cin`. -/
def addResult (a v : Byte) (cin : Bool) : AluResult :=
  let s := a.toNat + v.toNat + cin.toNat
  let half := a.toNat % 16 + v.toNat % 16 + cin.toNat
  { value := BitVec.ofNat 8 s, z := decide (s % 256 = 0), n := false, h := decide (half > 15), c := decide (s > 255) }

/-- R123, R124, R128: `a - v - cin`; H and C are borrows. -/
def subResult (a v : Byte) (cin : Bool) : AluResult :=
  let d : Int := (a.toNat : Int) - v.toNat - cin.toNat
  let half : Int := ((a.toNat % 16 : Nat) : Int) - (v.toNat % 16 : Nat) - cin.toNat
  { value := BitVec.ofInt 8 d, z := decide (d % 256 = 0), n := true, h := decide (half < 0), c := decide (d < 0) }

/-- R125 to R127: Z of the result, N and C clear, H as given. -/
def logicResult (r : Byte) (h : Bool) : AluResult :=
  { value := r, z := decide (r = 0), n := false, h := h, c := false }

/-- The result of an `alu` operation on A, the operand and the carry flag (R121 to R128). -/
def aluResult (op : AluOp) (a v : Byte) (cf : Bool) : AluResult :=
  match op with
  | .add => addResult a v false
  | .adc => addResult a v cf
  | .sub => subResult a v false
  | .sbc => subResult a v cf
  | .and => logicResult (a &&& v) true
  | .xor => logicResult (a ^^^ v) false
  | .or => logicResult (a ||| v) false
  | .cp => subResult a v false

/-- R129; C is the old C. -/
def incResult (v : Byte) (cf : Bool) : AluResult :=
  { value := v + 1, z := decide (v + 1 = 0), n := false, h := decide (v.toNat % 16 = 15), c := cf }

/-- R130; C is the old C. -/
def decResult (v : Byte) (cf : Bool) : AluResult :=
  { value := v - 1, z := decide (v - 1 = 0), n := true, h := decide (v.toNat % 16 = 0), c := cf }

/-- A result word with H and C. -/
structure AddResult16 where
  value : Word
  h : Bool
  c : Bool
deriving DecidableEq, Repr

/-- R140: the carries out of bits 11 and 15. -/
def addHlResult (hl v : Word) : AddResult16 :=
  { value := BitVec.ofNat 16 (hl.toNat + v.toNat)
    h := decide (hl.toNat % 4096 + v.toNat % 4096 > 0x0FFF)
    c := decide (hl.toNat + v.toNat > 0xFFFF) }

/-- R143, R170: the signed byte is added to SP; H and C are the carries of the unsigned low byte. -/
def addSpResult (sp : Word) (e : Byte) : AddResult16 :=
  { value := sp + sext16 e
    h := decide (sp.toNat % 16 + e.toNat % 16 > 0xF)
    c := decide (sp.toNat % 256 + e.toNat > 0xFF) }

/-- R230: the adjusted accumulator and the new carry, from A and the flags N, H, C. -/
def daaResult (a : Byte) (n h c : Bool) : Byte × Bool :=
  if n then
    let a1 := if c then a - 0x60 else a
    (if h then a1 - 0x06 else a1, c)
  else
    let hiFix := c || decide (a.toNat > 0x99)
    let a1 := if hiFix then a + 0x60 else a
    (if h || decide (a.toNat % 16 > 9) then a1 + 0x06 else a1, hiFix)

/-- The rotates, shifts and SWAP: the result and the new carry from the operand and the carry flag (R251 to R258). -/
def rotResult (op : RotOp) (v : Byte) (cf : Bool) : Byte × Bool :=
  match op with
  | .rlc => ((v <<< 1) ||| bitByte (v.getLsbD 7), v.getLsbD 7)
  | .rrc => ((v >>> 1) ||| (bitByte (v.getLsbD 0) <<< 7), v.getLsbD 0)
  | .rl => ((v <<< 1) ||| bitByte cf, v.getLsbD 7)
  | .rr => ((v >>> 1) ||| (bitByte cf <<< 7), v.getLsbD 0)
  | .sla => (v <<< 1, v.getLsbD 7)
  | .sra => ((v >>> 1) ||| (v &&& 0x80), v.getLsbD 0)
  | .swap => ((v <<< 4) ||| (v >>> 4), false)
  | .srl => (v >>> 1, v.getLsbD 0)

/-- R260: bit `k` cleared. -/
def resBit (k : Fin 8) (v : Byte) : Byte := v &&& ~~~((1 : Byte) <<< k.val)

/-- R261: bit `k` set. -/
def setBit (k : Fin 8) (v : Byte) : Byte := v ||| ((1 : Byte) <<< k.val)

end Sys2Proof.Machine
end

