-- ==== Sys2Proof/Machine/Memory.lean ====
section
/-! DEFINITION. Byte memories as lists of (address, byte) cells in one canonical form: addresses strictly rising and no cell
equal to what an unlisted address reads as. Lookup takes the first cell of an address, so that the laws of reading after
writing hold of every list. -/

namespace Sys2Proof.Machine

/-- What a byte that nothing has written reads as. DESIGN CHOICE: the spec gives a draw (D11); log entry 2. -/
def Memory.unlisted : Byte := 0

/-- The cell at an address, if one is listed. -/
def Memory.find (a : Nat) : List Host.Cell → Option Byte
  | [] => none
  | c :: m => if c.1 = a then some c.2 else Memory.find a m

/-- List a byte at an address, in rising order, in place of the cell that stood there. -/
def Memory.put (a : Nat) (v : Byte) : List Host.Cell → List Host.Cell
  | [] => [(a, v)]
  | c :: m =>
    if a < c.1 then (a, v) :: c :: m
    else if a = c.1 then (a, v) :: m
    else c :: Memory.put a v m

/-- Drop the cells at an address. -/
def Memory.erase (a : Nat) : List Host.Cell → List Host.Cell
  | [] => []
  | c :: m => if c.1 = a then Memory.erase a m else c :: Memory.erase a m

/-- Read one byte. -/
def Memory.read (m : List Host.Cell) (a : Nat) : Byte := (Memory.find a m).getD Memory.unlisted

/-- Write one byte, keeping the canonical form. -/
def Memory.write (m : List Host.Cell) (a : Nat) (v : Byte) : List Host.Cell :=
  if v = Memory.unlisted then Memory.erase a m else Memory.put a v m

/-- Addresses strictly rising. -/
def Memory.rising : List Host.Cell → Bool
  | [] => true
  | c :: m => m.all (fun e => decide (c.1 < e.1)) && Memory.rising m

/-- The canonical form. -/
def Memory.wf (m : List Host.Cell) : Bool :=
  Memory.rising m && m.all (fun e => e.2 != Memory.unlisted)

end Sys2Proof.Machine
end

