-- ==== Sys2Proof/Syntax.lean ====
section
/-! DEFINITION. The instructions: one constructor per mnemonic of spec/opcode_table.json, named after the row (`m` before an
operand is the table's parentheses: memory addressed by it). Immediate bytes are the constructor's argument. The rows with
an argument come first (Lean's run time bounds the tag of a constructor with an argument), then the others; within each
part the order is the table's. The eleven unmapped bytes share one constructor, as they share the table's mnemonic. -/

namespace Sys2Proof

inductive Instr where
  /-- `LD BC,n16` (01): R167. -/
  | ld_BC_n16 (n : Word)
  /-- `LD B,n8` (06): R153. -/
  | ld_B_n8 (n : Byte)
  /-- `LD (a16),SP` (08): R168. -/
  | ld_ma16_SP (a : Word)
  /-- `LD C,n8` (0E): R153. -/
  | ld_C_n8 (n : Byte)
  /-- `STOP` (10), with its ignored second byte: R211. -/
  | stop (ignored : Byte)
  /-- `LD DE,n16` (11): R167. -/
  | ld_DE_n16 (n : Word)
  /-- `LD D,n8` (16): R153. -/
  | ld_D_n8 (n : Byte)
  /-- `JR e8` (18): R183. -/
  | jr_e8 (e : Byte)
  /-- `LD E,n8` (1E): R153. -/
  | ld_E_n8 (n : Byte)
  /-- `JR NZ,e8` (20): R184. -/
  | jr_NZ_e8 (e : Byte)
  /-- `LD HL,n16` (21): R167. -/
  | ld_HL_n16 (n : Word)
  /-- `LD H,n8` (26): R153. -/
  | ld_H_n8 (n : Byte)
  /-- `JR Z,e8` (28): R184. -/
  | jr_Z_e8 (e : Byte)
  /-- `LD L,n8` (2E): R153. -/
  | ld_L_n8 (n : Byte)
  /-- `JR NC,e8` (30): R184. -/
  | jr_NC_e8 (e : Byte)
  /-- `LD SP,n16` (31): R167. -/
  | ld_SP_n16 (n : Word)
  /-- `LD (HL),n8` (36): R154. -/
  | ld_mHL_n8 (n : Byte)
  /-- `JR C,e8` (38): R184. -/
  | jr_C_e8 (e : Byte)
  /-- `LD A,n8` (3E): R153. -/
  | ld_A_n8 (n : Byte)
  /-- `JP NZ,a16` (C2): R181. -/
  | jp_NZ_a16 (a : Word)
  /-- `JP a16` (C3): R180. -/
  | jp_a16 (a : Word)
  /-- `CALL NZ,a16` (C4): R186. -/
  | call_NZ_a16 (a : Word)
  /-- `ADD A,n8` (C6): R121. -/
  | add_A_n8 (n : Byte)
  /-- `JP Z,a16` (CA): R181. -/
  | jp_Z_a16 (a : Word)
  /-- PREFIX CB: the escape byte 0xCB with its second byte `op2` not yet resolved (R92). -/
  | prefixCb (op2 : Byte)
  /-- `CALL Z,a16` (CC): R186. -/
  | call_Z_a16 (a : Word)
  /-- `CALL a16` (CD): R185. -/
  | call_a16 (a : Word)
  /-- `ADC A,n8` (CE): R122. -/
  | adc_A_n8 (n : Byte)
  /-- `JP NC,a16` (D2): R181. -/
  | jp_NC_a16 (a : Word)
  /-- UNMAPPED: the byte `op` has no descriptor (R99); meaning R310. -/
  | unmapped (op : Byte)
  /-- `CALL NC,a16` (D4): R186. -/
  | call_NC_a16 (a : Word)
  /-- `SUB n8` (D6): R123. -/
  | sub_n8 (n : Byte)
  /-- `JP C,a16` (DA): R181. -/
  | jp_C_a16 (a : Word)
  /-- `CALL C,a16` (DC): R186. -/
  | call_C_a16 (a : Word)
  /-- `SBC A,n8` (DE): R124. -/
  | sbc_A_n8 (n : Byte)
  /-- `LDH (a8),A` (E0): R163. -/
  | ldh_ma8_A (n : Byte)
  /-- `AND n8` (E6): R125. -/
  | and_n8 (n : Byte)
  /-- `ADD SP,e8` (E8): R143. -/
  | add_SP_e8 (e : Byte)
  /-- `LD (a16),A` (EA): R161. -/
  | ld_ma16_A (a : Word)
  /-- `XOR n8` (EE): R126. -/
  | xor_n8 (n : Byte)
  /-- `LDH A,(a8)` (F0): R164. -/
  | ldh_A_ma8 (n : Byte)
  /-- `OR n8` (F6): R127. -/
  | or_n8 (n : Byte)
  /-- `LD HL,SP+e8` (F8): R170. -/
  | ld_HL_SPe8 (e : Byte)
  /-- `LD A,(a16)` (FA): R162. -/
  | ld_A_ma16 (a : Word)
  /-- `CP n8` (FE): R128. -/
  | cp_n8 (n : Byte)
  /-- `NOP` (00): R212. -/
  | nop
  /-- `LD (BC),A` (02): R155. -/
  | ld_mBC_A
  /-- `INC BC` (03): R141. -/
  | inc_BC
  /-- `INC B` (04): R129. -/
  | inc_B
  /-- `DEC B` (05): R130. -/
  | dec_B
  /-- `RLCA` (07): R234. -/
  | rlca
  /-- `ADD HL,BC` (09): R140. -/
  | add_HL_BC
  /-- `LD A,(BC)` (0A): R158. -/
  | ld_A_mBC
  /-- `DEC BC` (0B): R142. -/
  | dec_BC
  /-- `INC C` (0C): R129. -/
  | inc_C
  /-- `DEC C` (0D): R130. -/
  | dec_C
  /-- `RRCA` (0F): R235. -/
  | rrca
  /-- `LD (DE),A` (12): R155. -/
  | ld_mDE_A
  /-- `INC DE` (13): R141. -/
  | inc_DE
  /-- `INC D` (14): R129. -/
  | inc_D
  /-- `DEC D` (15): R130. -/
  | dec_D
  /-- `RLA` (17): R236. -/
  | rla
  /-- `ADD HL,DE` (19): R140. -/
  | add_HL_DE
  /-- `LD A,(DE)` (1A): R158. -/
  | ld_A_mDE
  /-- `DEC DE` (1B): R142. -/
  | dec_DE
  /-- `INC E` (1C): R129. -/
  | inc_E
  /-- `DEC E` (1D): R130. -/
  | dec_E
  /-- `RRA` (1F): R237. -/
  | rra
  /-- `LD (HL+),A` (22): R156. -/
  | ld_mHLinc_A
  /-- `INC HL` (23): R141. -/
  | inc_HL
  /-- `INC H` (24): R129. -/
  | inc_H
  /-- `DEC H` (25): R130. -/
  | dec_H
  /-- `DAA` (27): R230. -/
  | daa
  /-- `ADD HL,HL` (29): R140. -/
  | add_HL_HL
  /-- `LD A,(HL+)` (2A): R159. -/
  | ld_A_mHLinc
  /-- `DEC HL` (2B): R142. -/
  | dec_HL
  /-- `INC L` (2C): R129. -/
  | inc_L
  /-- `DEC L` (2D): R130. -/
  | dec_L
  /-- `CPL` (2F): R231. -/
  | cpl
  /-- `LD (HL-),A` (32): R157. -/
  | ld_mHLdec_A
  /-- `INC SP` (33): R141. -/
  | inc_SP
  /-- `INC (HL)` (34): R129. -/
  | inc_mHL
  /-- `DEC (HL)` (35): R130. -/
  | dec_mHL
  /-- `SCF` (37): R232. -/
  | scf
  /-- `ADD HL,SP` (39): R140. -/
  | add_HL_SP
  /-- `LD A,(HL-)` (3A): R160. -/
  | ld_A_mHLdec
  /-- `DEC SP` (3B): R142. -/
  | dec_SP
  /-- `INC A` (3C): R129. -/
  | inc_A
  /-- `DEC A` (3D): R130. -/
  | dec_A
  /-- `CCF` (3F): R233. -/
  | ccf
  /-- `LD B,B` (40): R150. -/
  | ld_B_B
  /-- `LD B,C` (41): R150. -/
  | ld_B_C
  /-- `LD B,D` (42): R150. -/
  | ld_B_D
  /-- `LD B,E` (43): R150. -/
  | ld_B_E
  /-- `LD B,H` (44): R150. -/
  | ld_B_H
  /-- `LD B,L` (45): R150. -/
  | ld_B_L
  /-- `LD B,(HL)` (46): R151. -/
  | ld_B_mHL
  /-- `LD B,A` (47): R150. -/
  | ld_B_A
  /-- `LD C,B` (48): R150. -/
  | ld_C_B
  /-- `LD C,C` (49): R150. -/
  | ld_C_C
  /-- `LD C,D` (4A): R150. -/
  | ld_C_D
  /-- `LD C,E` (4B): R150. -/
  | ld_C_E
  /-- `LD C,H` (4C): R150. -/
  | ld_C_H
  /-- `LD C,L` (4D): R150. -/
  | ld_C_L
  /-- `LD C,(HL)` (4E): R151. -/
  | ld_C_mHL
  /-- `LD C,A` (4F): R150. -/
  | ld_C_A
  /-- `LD D,B` (50): R150. -/
  | ld_D_B
  /-- `LD D,C` (51): R150. -/
  | ld_D_C
  /-- `LD D,D` (52): R150. -/
  | ld_D_D
  /-- `LD D,E` (53): R150. -/
  | ld_D_E
  /-- `LD D,H` (54): R150. -/
  | ld_D_H
  /-- `LD D,L` (55): R150. -/
  | ld_D_L
  /-- `LD D,(HL)` (56): R151. -/
  | ld_D_mHL
  /-- `LD D,A` (57): R150. -/
  | ld_D_A
  /-- `LD E,B` (58): R150. -/
  | ld_E_B
  /-- `LD E,C` (59): R150. -/
  | ld_E_C
  /-- `LD E,D` (5A): R150. -/
  | ld_E_D
  /-- `LD E,E` (5B): R150. -/
  | ld_E_E
  /-- `LD E,H` (5C): R150. -/
  | ld_E_H
  /-- `LD E,L` (5D): R150. -/
  | ld_E_L
  /-- `LD E,(HL)` (5E): R151. -/
  | ld_E_mHL
  /-- `LD E,A` (5F): R150. -/
  | ld_E_A
  /-- `LD H,B` (60): R150. -/
  | ld_H_B
  /-- `LD H,C` (61): R150. -/
  | ld_H_C
  /-- `LD H,D` (62): R150. -/
  | ld_H_D
  /-- `LD H,E` (63): R150. -/
  | ld_H_E
  /-- `LD H,H` (64): R150. -/
  | ld_H_H
  /-- `LD H,L` (65): R150. -/
  | ld_H_L
  /-- `LD H,(HL)` (66): R151. -/
  | ld_H_mHL
  /-- `LD H,A` (67): R150. -/
  | ld_H_A
  /-- `LD L,B` (68): R150. -/
  | ld_L_B
  /-- `LD L,C` (69): R150. -/
  | ld_L_C
  /-- `LD L,D` (6A): R150. -/
  | ld_L_D
  /-- `LD L,E` (6B): R150. -/
  | ld_L_E
  /-- `LD L,H` (6C): R150. -/
  | ld_L_H
  /-- `LD L,L` (6D): R150. -/
  | ld_L_L
  /-- `LD L,(HL)` (6E): R151. -/
  | ld_L_mHL
  /-- `LD L,A` (6F): R150. -/
  | ld_L_A
  /-- `LD (HL),B` (70): R152. -/
  | ld_mHL_B
  /-- `LD (HL),C` (71): R152. -/
  | ld_mHL_C
  /-- `LD (HL),D` (72): R152. -/
  | ld_mHL_D
  /-- `LD (HL),E` (73): R152. -/
  | ld_mHL_E
  /-- `LD (HL),H` (74): R152. -/
  | ld_mHL_H
  /-- `LD (HL),L` (75): R152. -/
  | ld_mHL_L
  /-- `HALT` (76): R210. -/
  | halt
  /-- `LD (HL),A` (77): R152. -/
  | ld_mHL_A
  /-- `LD A,B` (78): R150. -/
  | ld_A_B
  /-- `LD A,C` (79): R150. -/
  | ld_A_C
  /-- `LD A,D` (7A): R150. -/
  | ld_A_D
  /-- `LD A,E` (7B): R150. -/
  | ld_A_E
  /-- `LD A,H` (7C): R150. -/
  | ld_A_H
  /-- `LD A,L` (7D): R150. -/
  | ld_A_L
  /-- `LD A,(HL)` (7E): R151. -/
  | ld_A_mHL
  /-- `LD A,A` (7F): R150. -/
  | ld_A_A
  /-- `ADD A,B` (80): R121. -/
  | add_A_B
  /-- `ADD A,C` (81): R121. -/
  | add_A_C
  /-- `ADD A,D` (82): R121. -/
  | add_A_D
  /-- `ADD A,E` (83): R121. -/
  | add_A_E
  /-- `ADD A,H` (84): R121. -/
  | add_A_H
  /-- `ADD A,L` (85): R121. -/
  | add_A_L
  /-- `ADD A,(HL)` (86): R121. -/
  | add_A_mHL
  /-- `ADD A,A` (87): R121. -/
  | add_A_A
  /-- `ADC A,B` (88): R122. -/
  | adc_A_B
  /-- `ADC A,C` (89): R122. -/
  | adc_A_C
  /-- `ADC A,D` (8A): R122. -/
  | adc_A_D
  /-- `ADC A,E` (8B): R122. -/
  | adc_A_E
  /-- `ADC A,H` (8C): R122. -/
  | adc_A_H
  /-- `ADC A,L` (8D): R122. -/
  | adc_A_L
  /-- `ADC A,(HL)` (8E): R122. -/
  | adc_A_mHL
  /-- `ADC A,A` (8F): R122. -/
  | adc_A_A
  /-- `SUB B` (90): R123. -/
  | sub_B
  /-- `SUB C` (91): R123. -/
  | sub_C
  /-- `SUB D` (92): R123. -/
  | sub_D
  /-- `SUB E` (93): R123. -/
  | sub_E
  /-- `SUB H` (94): R123. -/
  | sub_H
  /-- `SUB L` (95): R123. -/
  | sub_L
  /-- `SUB (HL)` (96): R123. -/
  | sub_mHL
  /-- `SUB A` (97): R123. -/
  | sub_A
  /-- `SBC A,B` (98): R124. -/
  | sbc_A_B
  /-- `SBC A,C` (99): R124. -/
  | sbc_A_C
  /-- `SBC A,D` (9A): R124. -/
  | sbc_A_D
  /-- `SBC A,E` (9B): R124. -/
  | sbc_A_E
  /-- `SBC A,H` (9C): R124. -/
  | sbc_A_H
  /-- `SBC A,L` (9D): R124. -/
  | sbc_A_L
  /-- `SBC A,(HL)` (9E): R124. -/
  | sbc_A_mHL
  /-- `SBC A,A` (9F): R124. -/
  | sbc_A_A
  /-- `AND B` (A0): R125. -/
  | and_B
  /-- `AND C` (A1): R125. -/
  | and_C
  /-- `AND D` (A2): R125. -/
  | and_D
  /-- `AND E` (A3): R125. -/
  | and_E
  /-- `AND H` (A4): R125. -/
  | and_H
  /-- `AND L` (A5): R125. -/
  | and_L
  /-- `AND (HL)` (A6): R125. -/
  | and_mHL
  /-- `AND A` (A7): R125. -/
  | and_A
  /-- `XOR B` (A8): R126. -/
  | xor_B
  /-- `XOR C` (A9): R126. -/
  | xor_C
  /-- `XOR D` (AA): R126. -/
  | xor_D
  /-- `XOR E` (AB): R126. -/
  | xor_E
  /-- `XOR H` (AC): R126. -/
  | xor_H
  /-- `XOR L` (AD): R126. -/
  | xor_L
  /-- `XOR (HL)` (AE): R126. -/
  | xor_mHL
  /-- `XOR A` (AF): R126. -/
  | xor_A
  /-- `OR B` (B0): R127. -/
  | or_B
  /-- `OR C` (B1): R127. -/
  | or_C
  /-- `OR D` (B2): R127. -/
  | or_D
  /-- `OR E` (B3): R127. -/
  | or_E
  /-- `OR H` (B4): R127. -/
  | or_H
  /-- `OR L` (B5): R127. -/
  | or_L
  /-- `OR (HL)` (B6): R127. -/
  | or_mHL
  /-- `OR A` (B7): R127. -/
  | or_A
  /-- `CP B` (B8): R128. -/
  | cp_B
  /-- `CP C` (B9): R128. -/
  | cp_C
  /-- `CP D` (BA): R128. -/
  | cp_D
  /-- `CP E` (BB): R128. -/
  | cp_E
  /-- `CP H` (BC): R128. -/
  | cp_H
  /-- `CP L` (BD): R128. -/
  | cp_L
  /-- `CP (HL)` (BE): R128. -/
  | cp_mHL
  /-- `CP A` (BF): R128. -/
  | cp_A
  /-- `RET NZ` (C0): R188. -/
  | ret_NZ
  /-- `POP BC` (C1): R203. -/
  | pop_BC
  /-- `PUSH BC` (C5): R202. -/
  | push_BC
  /-- `RST 0x00` (C7): R191. -/
  | rst_0x00
  /-- `RET Z` (C8): R188. -/
  | ret_Z
  /-- `RET` (C9): R187. -/
  | ret
  /-- `RST 0x08` (CF): R191. -/
  | rst_0x08
  /-- `RET NC` (D0): R188. -/
  | ret_NC
  /-- `POP DE` (D1): R203. -/
  | pop_DE
  /-- `PUSH DE` (D5): R202. -/
  | push_DE
  /-- `RST 0x10` (D7): R191. -/
  | rst_0x10
  /-- `RET C` (D8): R188. -/
  | ret_C
  /-- `RETI` (D9): R190. -/
  | reti
  /-- `RST 0x18` (DF): R191. -/
  | rst_0x18
  /-- `POP HL` (E1): R203. -/
  | pop_HL
  /-- `LD (C),A` (E2): R165. -/
  | ld_mC_A
  /-- `PUSH HL` (E5): R202. -/
  | push_HL
  /-- `RST 0x20` (E7): R191. -/
  | rst_0x20
  /-- `JP HL` (E9): R182. -/
  | jp_HL
  /-- `RST 0x28` (EF): R191. -/
  | rst_0x28
  /-- `POP AF` (F1): R203. -/
  | pop_AF
  /-- `LD A,(C)` (F2): R166. -/
  | ld_A_mC
  /-- `DI` (F3): R213. -/
  | di
  /-- `PUSH AF` (F5): R202. -/
  | push_AF
  /-- `RST 0x30` (F7): R191. -/
  | rst_0x30
  /-- `LD SP,HL` (F9): R169. -/
  | ld_SP_HL
  /-- `EI` (FB): R214. -/
  | ei
  /-- `RST 0x38` (FF): R191. -/
  | rst_0x38
  /-- `RLC B` (CB 00): R251. -/
  | rlc_B
  /-- `RLC C` (CB 01): R251. -/
  | rlc_C
  /-- `RLC D` (CB 02): R251. -/
  | rlc_D
  /-- `RLC E` (CB 03): R251. -/
  | rlc_E
  /-- `RLC H` (CB 04): R251. -/
  | rlc_H
  /-- `RLC L` (CB 05): R251. -/
  | rlc_L
  /-- `RLC (HL)` (CB 06): R251. -/
  | rlc_mHL
  /-- `RLC A` (CB 07): R251. -/
  | rlc_A
  /-- `RRC B` (CB 08): R252. -/
  | rrc_B
  /-- `RRC C` (CB 09): R252. -/
  | rrc_C
  /-- `RRC D` (CB 0A): R252. -/
  | rrc_D
  /-- `RRC E` (CB 0B): R252. -/
  | rrc_E
  /-- `RRC H` (CB 0C): R252. -/
  | rrc_H
  /-- `RRC L` (CB 0D): R252. -/
  | rrc_L
  /-- `RRC (HL)` (CB 0E): R252. -/
  | rrc_mHL
  /-- `RRC A` (CB 0F): R252. -/
  | rrc_A
  /-- `RL B` (CB 10): R253. -/
  | rl_B
  /-- `RL C` (CB 11): R253. -/
  | rl_C
  /-- `RL D` (CB 12): R253. -/
  | rl_D
  /-- `RL E` (CB 13): R253. -/
  | rl_E
  /-- `RL H` (CB 14): R253. -/
  | rl_H
  /-- `RL L` (CB 15): R253. -/
  | rl_L
  /-- `RL (HL)` (CB 16): R253. -/
  | rl_mHL
  /-- `RL A` (CB 17): R253. -/
  | rl_A
  /-- `RR B` (CB 18): R254. -/
  | rr_B
  /-- `RR C` (CB 19): R254. -/
  | rr_C
  /-- `RR D` (CB 1A): R254. -/
  | rr_D
  /-- `RR E` (CB 1B): R254. -/
  | rr_E
  /-- `RR H` (CB 1C): R254. -/
  | rr_H
  /-- `RR L` (CB 1D): R254. -/
  | rr_L
  /-- `RR (HL)` (CB 1E): R254. -/
  | rr_mHL
  /-- `RR A` (CB 1F): R254. -/
  | rr_A
  /-- `SLA B` (CB 20): R255. -/
  | sla_B
  /-- `SLA C` (CB 21): R255. -/
  | sla_C
  /-- `SLA D` (CB 22): R255. -/
  | sla_D
  /-- `SLA E` (CB 23): R255. -/
  | sla_E
  /-- `SLA H` (CB 24): R255. -/
  | sla_H
  /-- `SLA L` (CB 25): R255. -/
  | sla_L
  /-- `SLA (HL)` (CB 26): R255. -/
  | sla_mHL
  /-- `SLA A` (CB 27): R255. -/
  | sla_A
  /-- `SRA B` (CB 28): R256. -/
  | sra_B
  /-- `SRA C` (CB 29): R256. -/
  | sra_C
  /-- `SRA D` (CB 2A): R256. -/
  | sra_D
  /-- `SRA E` (CB 2B): R256. -/
  | sra_E
  /-- `SRA H` (CB 2C): R256. -/
  | sra_H
  /-- `SRA L` (CB 2D): R256. -/
  | sra_L
  /-- `SRA (HL)` (CB 2E): R256. -/
  | sra_mHL
  /-- `SRA A` (CB 2F): R256. -/
  | sra_A
  /-- `SWAP B` (CB 30): R257. -/
  | swap_B
  /-- `SWAP C` (CB 31): R257. -/
  | swap_C
  /-- `SWAP D` (CB 32): R257. -/
  | swap_D
  /-- `SWAP E` (CB 33): R257. -/
  | swap_E
  /-- `SWAP H` (CB 34): R257. -/
  | swap_H
  /-- `SWAP L` (CB 35): R257. -/
  | swap_L
  /-- `SWAP (HL)` (CB 36): R257. -/
  | swap_mHL
  /-- `SWAP A` (CB 37): R257. -/
  | swap_A
  /-- `SRL B` (CB 38): R258. -/
  | srl_B
  /-- `SRL C` (CB 39): R258. -/
  | srl_C
  /-- `SRL D` (CB 3A): R258. -/
  | srl_D
  /-- `SRL E` (CB 3B): R258. -/
  | srl_E
  /-- `SRL H` (CB 3C): R258. -/
  | srl_H
  /-- `SRL L` (CB 3D): R258. -/
  | srl_L
  /-- `SRL (HL)` (CB 3E): R258. -/
  | srl_mHL
  /-- `SRL A` (CB 3F): R258. -/
  | srl_A
  /-- `BIT 0,B` (CB 40): R259. -/
  | bit_0_B
  /-- `BIT 0,C` (CB 41): R259. -/
  | bit_0_C
  /-- `BIT 0,D` (CB 42): R259. -/
  | bit_0_D
  /-- `BIT 0,E` (CB 43): R259. -/
  | bit_0_E
  /-- `BIT 0,H` (CB 44): R259. -/
  | bit_0_H
  /-- `BIT 0,L` (CB 45): R259. -/
  | bit_0_L
  /-- `BIT 0,(HL)` (CB 46): R259. -/
  | bit_0_mHL
  /-- `BIT 0,A` (CB 47): R259. -/
  | bit_0_A
  /-- `BIT 1,B` (CB 48): R259. -/
  | bit_1_B
  /-- `BIT 1,C` (CB 49): R259. -/
  | bit_1_C
  /-- `BIT 1,D` (CB 4A): R259. -/
  | bit_1_D
  /-- `BIT 1,E` (CB 4B): R259. -/
  | bit_1_E
  /-- `BIT 1,H` (CB 4C): R259. -/
  | bit_1_H
  /-- `BIT 1,L` (CB 4D): R259. -/
  | bit_1_L
  /-- `BIT 1,(HL)` (CB 4E): R259. -/
  | bit_1_mHL
  /-- `BIT 1,A` (CB 4F): R259. -/
  | bit_1_A
  /-- `BIT 2,B` (CB 50): R259. -/
  | bit_2_B
  /-- `BIT 2,C` (CB 51): R259. -/
  | bit_2_C
  /-- `BIT 2,D` (CB 52): R259. -/
  | bit_2_D
  /-- `BIT 2,E` (CB 53): R259. -/
  | bit_2_E
  /-- `BIT 2,H` (CB 54): R259. -/
  | bit_2_H
  /-- `BIT 2,L` (CB 55): R259. -/
  | bit_2_L
  /-- `BIT 2,(HL)` (CB 56): R259. -/
  | bit_2_mHL
  /-- `BIT 2,A` (CB 57): R259. -/
  | bit_2_A
  /-- `BIT 3,B` (CB 58): R259. -/
  | bit_3_B
  /-- `BIT 3,C` (CB 59): R259. -/
  | bit_3_C
  /-- `BIT 3,D` (CB 5A): R259. -/
  | bit_3_D
  /-- `BIT 3,E` (CB 5B): R259. -/
  | bit_3_E
  /-- `BIT 3,H` (CB 5C): R259. -/
  | bit_3_H
  /-- `BIT 3,L` (CB 5D): R259. -/
  | bit_3_L
  /-- `BIT 3,(HL)` (CB 5E): R259. -/
  | bit_3_mHL
  /-- `BIT 3,A` (CB 5F): R259. -/
  | bit_3_A
  /-- `BIT 4,B` (CB 60): R259. -/
  | bit_4_B
  /-- `BIT 4,C` (CB 61): R259. -/
  | bit_4_C
  /-- `BIT 4,D` (CB 62): R259. -/
  | bit_4_D
  /-- `BIT 4,E` (CB 63): R259. -/
  | bit_4_E
  /-- `BIT 4,H` (CB 64): R259. -/
  | bit_4_H
  /-- `BIT 4,L` (CB 65): R259. -/
  | bit_4_L
  /-- `BIT 4,(HL)` (CB 66): R259. -/
  | bit_4_mHL
  /-- `BIT 4,A` (CB 67): R259. -/
  | bit_4_A
  /-- `BIT 5,B` (CB 68): R259. -/
  | bit_5_B
  /-- `BIT 5,C` (CB 69): R259. -/
  | bit_5_C
  /-- `BIT 5,D` (CB 6A): R259. -/
  | bit_5_D
  /-- `BIT 5,E` (CB 6B): R259. -/
  | bit_5_E
  /-- `BIT 5,H` (CB 6C): R259. -/
  | bit_5_H
  /-- `BIT 5,L` (CB 6D): R259. -/
  | bit_5_L
  /-- `BIT 5,(HL)` (CB 6E): R259. -/
  | bit_5_mHL
  /-- `BIT 5,A` (CB 6F): R259. -/
  | bit_5_A
  /-- `BIT 6,B` (CB 70): R259. -/
  | bit_6_B
  /-- `BIT 6,C` (CB 71): R259. -/
  | bit_6_C
  /-- `BIT 6,D` (CB 72): R259. -/
  | bit_6_D
  /-- `BIT 6,E` (CB 73): R259. -/
  | bit_6_E
  /-- `BIT 6,H` (CB 74): R259. -/
  | bit_6_H
  /-- `BIT 6,L` (CB 75): R259. -/
  | bit_6_L
  /-- `BIT 6,(HL)` (CB 76): R259. -/
  | bit_6_mHL
  /-- `BIT 6,A` (CB 77): R259. -/
  | bit_6_A
  /-- `BIT 7,B` (CB 78): R259. -/
  | bit_7_B
  /-- `BIT 7,C` (CB 79): R259. -/
  | bit_7_C
  /-- `BIT 7,D` (CB 7A): R259. -/
  | bit_7_D
  /-- `BIT 7,E` (CB 7B): R259. -/
  | bit_7_E
  /-- `BIT 7,H` (CB 7C): R259. -/
  | bit_7_H
  /-- `BIT 7,L` (CB 7D): R259. -/
  | bit_7_L
  /-- `BIT 7,(HL)` (CB 7E): R259. -/
  | bit_7_mHL
  /-- `BIT 7,A` (CB 7F): R259. -/
  | bit_7_A
  /-- `RES 0,B` (CB 80): R260. -/
  | res_0_B
  /-- `RES 0,C` (CB 81): R260. -/
  | res_0_C
  /-- `RES 0,D` (CB 82): R260. -/
  | res_0_D
  /-- `RES 0,E` (CB 83): R260. -/
  | res_0_E
  /-- `RES 0,H` (CB 84): R260. -/
  | res_0_H
  /-- `RES 0,L` (CB 85): R260. -/
  | res_0_L
  /-- `RES 0,(HL)` (CB 86): R260. -/
  | res_0_mHL
  /-- `RES 0,A` (CB 87): R260. -/
  | res_0_A
  /-- `RES 1,B` (CB 88): R260. -/
  | res_1_B
  /-- `RES 1,C` (CB 89): R260. -/
  | res_1_C
  /-- `RES 1,D` (CB 8A): R260. -/
  | res_1_D
  /-- `RES 1,E` (CB 8B): R260. -/
  | res_1_E
  /-- `RES 1,H` (CB 8C): R260. -/
  | res_1_H
  /-- `RES 1,L` (CB 8D): R260. -/
  | res_1_L
  /-- `RES 1,(HL)` (CB 8E): R260. -/
  | res_1_mHL
  /-- `RES 1,A` (CB 8F): R260. -/
  | res_1_A
  /-- `RES 2,B` (CB 90): R260. -/
  | res_2_B
  /-- `RES 2,C` (CB 91): R260. -/
  | res_2_C
  /-- `RES 2,D` (CB 92): R260. -/
  | res_2_D
  /-- `RES 2,E` (CB 93): R260. -/
  | res_2_E
  /-- `RES 2,H` (CB 94): R260. -/
  | res_2_H
  /-- `RES 2,L` (CB 95): R260. -/
  | res_2_L
  /-- `RES 2,(HL)` (CB 96): R260. -/
  | res_2_mHL
  /-- `RES 2,A` (CB 97): R260. -/
  | res_2_A
  /-- `RES 3,B` (CB 98): R260. -/
  | res_3_B
  /-- `RES 3,C` (CB 99): R260. -/
  | res_3_C
  /-- `RES 3,D` (CB 9A): R260. -/
  | res_3_D
  /-- `RES 3,E` (CB 9B): R260. -/
  | res_3_E
  /-- `RES 3,H` (CB 9C): R260. -/
  | res_3_H
  /-- `RES 3,L` (CB 9D): R260. -/
  | res_3_L
  /-- `RES 3,(HL)` (CB 9E): R260. -/
  | res_3_mHL
  /-- `RES 3,A` (CB 9F): R260. -/
  | res_3_A
  /-- `RES 4,B` (CB A0): R260. -/
  | res_4_B
  /-- `RES 4,C` (CB A1): R260. -/
  | res_4_C
  /-- `RES 4,D` (CB A2): R260. -/
  | res_4_D
  /-- `RES 4,E` (CB A3): R260. -/
  | res_4_E
  /-- `RES 4,H` (CB A4): R260. -/
  | res_4_H
  /-- `RES 4,L` (CB A5): R260. -/
  | res_4_L
  /-- `RES 4,(HL)` (CB A6): R260. -/
  | res_4_mHL
  /-- `RES 4,A` (CB A7): R260. -/
  | res_4_A
  /-- `RES 5,B` (CB A8): R260. -/
  | res_5_B
  /-- `RES 5,C` (CB A9): R260. -/
  | res_5_C
  /-- `RES 5,D` (CB AA): R260. -/
  | res_5_D
  /-- `RES 5,E` (CB AB): R260. -/
  | res_5_E
  /-- `RES 5,H` (CB AC): R260. -/
  | res_5_H
  /-- `RES 5,L` (CB AD): R260. -/
  | res_5_L
  /-- `RES 5,(HL)` (CB AE): R260. -/
  | res_5_mHL
  /-- `RES 5,A` (CB AF): R260. -/
  | res_5_A
  /-- `RES 6,B` (CB B0): R260. -/
  | res_6_B
  /-- `RES 6,C` (CB B1): R260. -/
  | res_6_C
  /-- `RES 6,D` (CB B2): R260. -/
  | res_6_D
  /-- `RES 6,E` (CB B3): R260. -/
  | res_6_E
  /-- `RES 6,H` (CB B4): R260. -/
  | res_6_H
  /-- `RES 6,L` (CB B5): R260. -/
  | res_6_L
  /-- `RES 6,(HL)` (CB B6): R260. -/
  | res_6_mHL
  /-- `RES 6,A` (CB B7): R260. -/
  | res_6_A
  /-- `RES 7,B` (CB B8): R260. -/
  | res_7_B
  /-- `RES 7,C` (CB B9): R260. -/
  | res_7_C
  /-- `RES 7,D` (CB BA): R260. -/
  | res_7_D
  /-- `RES 7,E` (CB BB): R260. -/
  | res_7_E
  /-- `RES 7,H` (CB BC): R260. -/
  | res_7_H
  /-- `RES 7,L` (CB BD): R260. -/
  | res_7_L
  /-- `RES 7,(HL)` (CB BE): R260. -/
  | res_7_mHL
  /-- `RES 7,A` (CB BF): R260. -/
  | res_7_A
  /-- `SET 0,B` (CB C0): R261. -/
  | set_0_B
  /-- `SET 0,C` (CB C1): R261. -/
  | set_0_C
  /-- `SET 0,D` (CB C2): R261. -/
  | set_0_D
  /-- `SET 0,E` (CB C3): R261. -/
  | set_0_E
  /-- `SET 0,H` (CB C4): R261. -/
  | set_0_H
  /-- `SET 0,L` (CB C5): R261. -/
  | set_0_L
  /-- `SET 0,(HL)` (CB C6): R261. -/
  | set_0_mHL
  /-- `SET 0,A` (CB C7): R261. -/
  | set_0_A
  /-- `SET 1,B` (CB C8): R261. -/
  | set_1_B
  /-- `SET 1,C` (CB C9): R261. -/
  | set_1_C
  /-- `SET 1,D` (CB CA): R261. -/
  | set_1_D
  /-- `SET 1,E` (CB CB): R261. -/
  | set_1_E
  /-- `SET 1,H` (CB CC): R261. -/
  | set_1_H
  /-- `SET 1,L` (CB CD): R261. -/
  | set_1_L
  /-- `SET 1,(HL)` (CB CE): R261. -/
  | set_1_mHL
  /-- `SET 1,A` (CB CF): R261. -/
  | set_1_A
  /-- `SET 2,B` (CB D0): R261. -/
  | set_2_B
  /-- `SET 2,C` (CB D1): R261. -/
  | set_2_C
  /-- `SET 2,D` (CB D2): R261. -/
  | set_2_D
  /-- `SET 2,E` (CB D3): R261. -/
  | set_2_E
  /-- `SET 2,H` (CB D4): R261. -/
  | set_2_H
  /-- `SET 2,L` (CB D5): R261. -/
  | set_2_L
  /-- `SET 2,(HL)` (CB D6): R261. -/
  | set_2_mHL
  /-- `SET 2,A` (CB D7): R261. -/
  | set_2_A
  /-- `SET 3,B` (CB D8): R261. -/
  | set_3_B
  /-- `SET 3,C` (CB D9): R261. -/
  | set_3_C
  /-- `SET 3,D` (CB DA): R261. -/
  | set_3_D
  /-- `SET 3,E` (CB DB): R261. -/
  | set_3_E
  /-- `SET 3,H` (CB DC): R261. -/
  | set_3_H
  /-- `SET 3,L` (CB DD): R261. -/
  | set_3_L
  /-- `SET 3,(HL)` (CB DE): R261. -/
  | set_3_mHL
  /-- `SET 3,A` (CB DF): R261. -/
  | set_3_A
  /-- `SET 4,B` (CB E0): R261. -/
  | set_4_B
  /-- `SET 4,C` (CB E1): R261. -/
  | set_4_C
  /-- `SET 4,D` (CB E2): R261. -/
  | set_4_D
  /-- `SET 4,E` (CB E3): R261. -/
  | set_4_E
  /-- `SET 4,H` (CB E4): R261. -/
  | set_4_H
  /-- `SET 4,L` (CB E5): R261. -/
  | set_4_L
  /-- `SET 4,(HL)` (CB E6): R261. -/
  | set_4_mHL
  /-- `SET 4,A` (CB E7): R261. -/
  | set_4_A
  /-- `SET 5,B` (CB E8): R261. -/
  | set_5_B
  /-- `SET 5,C` (CB E9): R261. -/
  | set_5_C
  /-- `SET 5,D` (CB EA): R261. -/
  | set_5_D
  /-- `SET 5,E` (CB EB): R261. -/
  | set_5_E
  /-- `SET 5,H` (CB EC): R261. -/
  | set_5_H
  /-- `SET 5,L` (CB ED): R261. -/
  | set_5_L
  /-- `SET 5,(HL)` (CB EE): R261. -/
  | set_5_mHL
  /-- `SET 5,A` (CB EF): R261. -/
  | set_5_A
  /-- `SET 6,B` (CB F0): R261. -/
  | set_6_B
  /-- `SET 6,C` (CB F1): R261. -/
  | set_6_C
  /-- `SET 6,D` (CB F2): R261. -/
  | set_6_D
  /-- `SET 6,E` (CB F3): R261. -/
  | set_6_E
  /-- `SET 6,H` (CB F4): R261. -/
  | set_6_H
  /-- `SET 6,L` (CB F5): R261. -/
  | set_6_L
  /-- `SET 6,(HL)` (CB F6): R261. -/
  | set_6_mHL
  /-- `SET 6,A` (CB F7): R261. -/
  | set_6_A
  /-- `SET 7,B` (CB F8): R261. -/
  | set_7_B
  /-- `SET 7,C` (CB F9): R261. -/
  | set_7_C
  /-- `SET 7,D` (CB FA): R261. -/
  | set_7_D
  /-- `SET 7,E` (CB FB): R261. -/
  | set_7_E
  /-- `SET 7,H` (CB FC): R261. -/
  | set_7_H
  /-- `SET 7,L` (CB FD): R261. -/
  | set_7_L
  /-- `SET 7,(HL)` (CB FE): R261. -/
  | set_7_mHL
  /-- `SET 7,A` (CB FF): R261. -/
  | set_7_A
deriving DecidableEq, Repr

end Sys2Proof
end

