-- ==== Sys2Proof/Machine/Descriptor.lean ====
section
/-! DEFINITION. The closed descriptor of R97 (spec/30_encoding.md), decoding by the bit fields of the opcode byte (R91, R96),
and the descriptor of every instruction (the table's column `descriptor`). The grids of Decode.lean and the fields here are two independent renderings of the opcode map. -/

namespace Sys2Proof

/-- R97. A descriptor names the operation and its selectors; immediates are not part of it. -/
inductive Descriptor where
  | nop | stop | halt | di | ei
  | ldR8R8 (dst src : R8) | ldR8N8 (dst : R8) | ldR16N16 (r : R16)
  | ldR16memA (m : R16Mem) | ldAR16mem (m : R16Mem)
  | ldA16A | ldAA16 | ldhA8A | ldhAA8 | ldhCA | ldhAC
  | ldA16Sp | ldSpHl | ldHlSpE8
  | aluR8 (op : AluOp) (r : R8) | aluN8 (op : AluOp)
  | incR8 (r : R8) | decR8 (r : R8)
  | addHlR16 (r : R16) | incR16 (r : R16) | decR16 (r : R16) | addSpE8
  | jpA16 | jpCcA16 (cc : Cond) | jpHl | jrE8 | jrCcE8 (cc : Cond)
  | callA16 | callCcA16 (cc : Cond) | ret | retCc (cc : Cond) | reti
  | rst (t : Fin 8)
  | push (r : R16Stk) | pop (r : R16Stk)
  | daa | cpl | scf | ccf | rlca | rrca | rla | rra
  | rot (op : RotOp) (r : R8) | bit (b : Fin 8) (r : R8) | res (b : Fin 8) (r : R8) | set (b : Fin 8) (r : R8)
deriving DecidableEq, Repr

/-- R97's `DecodeResult`; `escape` is its `Prefix`. -/
inductive DecodeResult where
  | instr (d : Descriptor)
  | escape
  | unmapped (op : Byte)
deriving DecidableEq, Repr

def DecodeResult.descriptor? : DecodeResult → Option Descriptor
  | .instr d => some d
  | .escape => none
  | .unmapped _ => none

/-- `x = op[7:6]` (R91). -/
def fieldX (op : Byte) : BitVec 2 := op.extractLsb' 6 2
/-- `y = op[5:3]` (R91). -/
def fieldY (op : Byte) : BitVec 3 := op.extractLsb' 3 3
/-- `z = op[2:0]` (R91). -/
def fieldZ (op : Byte) : BitVec 3 := op.extractLsb' 0 3
/-- `p = op[5:4]` (R91). -/
def fieldP (op : Byte) : BitVec 2 := op.extractLsb' 4 2
/-- `q = op[3]` (R91). -/
def fieldQ (op : Byte) : Bool := op.getLsbD 3

/-- The condition field `op[4:3]` (R94). -/
def fieldCc (op : Byte) : Cond := Cond.ofCode (op.extractLsb' 3 2)

/-- The unprefixed half of R96 for x = 0. -/
def decodeX0 (op : Byte) : DecodeResult :=
  match (fieldZ op).toNat with
  | 0 =>
    match (fieldY op).toNat with
    | 0 => .instr .nop
    | 1 => .instr .ldA16Sp
    | 2 => .instr .stop
    | 3 => .instr .jrE8
    | _ => .instr (.jrCcE8 (fieldCc op))
  | 1 => .instr (if fieldQ op then .addHlR16 (R16.ofCode (fieldP op)) else .ldR16N16 (R16.ofCode (fieldP op)))
  | 2 => .instr (if fieldQ op then .ldAR16mem (R16Mem.ofCode (fieldP op)) else .ldR16memA (R16Mem.ofCode (fieldP op)))
  | 3 => .instr (if fieldQ op then .decR16 (R16.ofCode (fieldP op)) else .incR16 (R16.ofCode (fieldP op)))
  | 4 => .instr (.incR8 (R8.ofCode (fieldY op)))
  | 5 => .instr (.decR8 (R8.ofCode (fieldY op)))
  | 6 => .instr (.ldR8N8 (R8.ofCode (fieldY op)))
  | _ =>
    match (fieldY op).toNat with
    | 0 => .instr .rlca
    | 1 => .instr .rrca
    | 2 => .instr .rla
    | 3 => .instr .rra
    | 4 => .instr .daa
    | 5 => .instr .cpl
    | 6 => .instr .scf
    | _ => .instr .ccf

/-- The unprefixed half of R96 for x = 3. -/
def decodeX3 (op : Byte) : DecodeResult :=
  match (fieldZ op).toNat with
  | 0 =>
    match (fieldY op).toNat with
    | 4 => .instr .ldhA8A
    | 5 => .instr .addSpE8
    | 6 => .instr .ldhAA8
    | 7 => .instr .ldHlSpE8
    | _ => .instr (.retCc (fieldCc op))
  | 1 =>
    if fieldQ op then
      match (fieldP op).toNat with
      | 0 => .instr .ret
      | 1 => .instr .reti
      | 2 => .instr .jpHl
      | _ => .instr .ldSpHl
    else .instr (.pop (R16Stk.ofCode (fieldP op)))
  | 2 =>
    match (fieldY op).toNat with
    | 4 => .instr .ldhCA
    | 5 => .instr .ldA16A
    | 6 => .instr .ldhAC
    | 7 => .instr .ldAA16
    | _ => .instr (.jpCcA16 (fieldCc op))
  | 3 =>
    match (fieldY op).toNat with
    | 0 => .instr .jpA16
    | 1 => .escape
    | 6 => .instr .di
    | 7 => .instr .ei
    | _ => .unmapped op
  | 4 => if (fieldY op).toNat < 4 then .instr (.callCcA16 (fieldCc op)) else .unmapped op
  | 5 =>
    if fieldQ op then (if fieldP op = 0 then .instr .callA16 else .unmapped op)
    else .instr (.push (R16Stk.ofCode (fieldP op)))
  | 6 => .instr (.aluN8 (AluOp.ofCode (fieldY op)))
  | _ => .instr (.rst (fieldY op).toFin)

/-- `Decode(op, prefixed)` (R98) by the fields of R96. -/
def decodeFields (op : Byte) (prefixed : Bool) : DecodeResult :=
  if prefixed then
    match (fieldX op).toNat with
    | 0 => .instr (.rot (RotOp.ofCode (fieldY op)) (R8.ofCode (fieldZ op)))
    | 1 => .instr (.bit (fieldY op).toFin (R8.ofCode (fieldZ op)))
    | 2 => .instr (.res (fieldY op).toFin (R8.ofCode (fieldZ op)))
    | _ => .instr (.set (fieldY op).toFin (R8.ofCode (fieldZ op)))
  else
    match (fieldX op).toNat with
    | 0 => decodeX0 op
    | 1 =>
      if fieldY op = 6 ∧ fieldZ op = 6 then .instr .halt
      else .instr (.ldR8R8 (R8.ofCode (fieldY op)) (R8.ofCode (fieldZ op)))
    | 2 => .instr (.aluR8 (AluOp.ofCode (fieldY op)) (R8.ofCode (fieldZ op)))
    | _ => decodeX3 op

/-- The descriptor of an instruction (column `descriptor` of spec/opcode_table.json); an unmapped byte has none. -/
def Instr.descriptor : Instr → Option Descriptor
  | .ld_BC_n16 _ => some (.ldR16N16 .bc)
  | .ld_B_n8 _ => some (.ldR8N8 .b)
  | .ld_ma16_SP _ => some .ldA16Sp
  | .ld_C_n8 _ => some (.ldR8N8 .c)
  | .stop _ => some .stop
  | .ld_DE_n16 _ => some (.ldR16N16 .de)
  | .ld_D_n8 _ => some (.ldR8N8 .d)
  | .jr_e8 _ => some .jrE8
  | .ld_E_n8 _ => some (.ldR8N8 .e)
  | .jr_NZ_e8 _ => some (.jrCcE8 .nz)
  | .ld_HL_n16 _ => some (.ldR16N16 .hl)
  | .ld_H_n8 _ => some (.ldR8N8 .h)
  | .jr_Z_e8 _ => some (.jrCcE8 .z)
  | .ld_L_n8 _ => some (.ldR8N8 .l)
  | .jr_NC_e8 _ => some (.jrCcE8 .nc)
  | .ld_SP_n16 _ => some (.ldR16N16 .sp)
  | .ld_mHL_n8 _ => some (.ldR8N8 .hlInd)
  | .jr_C_e8 _ => some (.jrCcE8 .c)
  | .ld_A_n8 _ => some (.ldR8N8 .a)
  | .jp_NZ_a16 _ => some (.jpCcA16 .nz)
  | .jp_a16 _ => some .jpA16
  | .call_NZ_a16 _ => some (.callCcA16 .nz)
  | .add_A_n8 _ => some (.aluN8 .add)
  | .jp_Z_a16 _ => some (.jpCcA16 .z)
  | .prefixCb op2 => (decodeFields op2 true).descriptor?
  | .call_Z_a16 _ => some (.callCcA16 .z)
  | .call_a16 _ => some .callA16
  | .adc_A_n8 _ => some (.aluN8 .adc)
  | .jp_NC_a16 _ => some (.jpCcA16 .nc)
  | .unmapped _ => none
  | .call_NC_a16 _ => some (.callCcA16 .nc)
  | .sub_n8 _ => some (.aluN8 .sub)
  | .jp_C_a16 _ => some (.jpCcA16 .c)
  | .call_C_a16 _ => some (.callCcA16 .c)
  | .sbc_A_n8 _ => some (.aluN8 .sbc)
  | .ldh_ma8_A _ => some .ldhA8A
  | .and_n8 _ => some (.aluN8 .and)
  | .add_SP_e8 _ => some .addSpE8
  | .ld_ma16_A _ => some .ldA16A
  | .xor_n8 _ => some (.aluN8 .xor)
  | .ldh_A_ma8 _ => some .ldhAA8
  | .or_n8 _ => some (.aluN8 .or)
  | .ld_HL_SPe8 _ => some .ldHlSpE8
  | .ld_A_ma16 _ => some .ldAA16
  | .cp_n8 _ => some (.aluN8 .cp)
  | .nop => some .nop
  | .ld_mBC_A => some (.ldR16memA .bc)
  | .inc_BC => some (.incR16 .bc)
  | .inc_B => some (.incR8 .b)
  | .dec_B => some (.decR8 .b)
  | .rlca => some .rlca
  | .add_HL_BC => some (.addHlR16 .bc)
  | .ld_A_mBC => some (.ldAR16mem .bc)
  | .dec_BC => some (.decR16 .bc)
  | .inc_C => some (.incR8 .c)
  | .dec_C => some (.decR8 .c)
  | .rrca => some .rrca
  | .ld_mDE_A => some (.ldR16memA .de)
  | .inc_DE => some (.incR16 .de)
  | .inc_D => some (.incR8 .d)
  | .dec_D => some (.decR8 .d)
  | .rla => some .rla
  | .add_HL_DE => some (.addHlR16 .de)
  | .ld_A_mDE => some (.ldAR16mem .de)
  | .dec_DE => some (.decR16 .de)
  | .inc_E => some (.incR8 .e)
  | .dec_E => some (.decR8 .e)
  | .rra => some .rra
  | .ld_mHLinc_A => some (.ldR16memA .hlInc)
  | .inc_HL => some (.incR16 .hl)
  | .inc_H => some (.incR8 .h)
  | .dec_H => some (.decR8 .h)
  | .daa => some .daa
  | .add_HL_HL => some (.addHlR16 .hl)
  | .ld_A_mHLinc => some (.ldAR16mem .hlInc)
  | .dec_HL => some (.decR16 .hl)
  | .inc_L => some (.incR8 .l)
  | .dec_L => some (.decR8 .l)
  | .cpl => some .cpl
  | .ld_mHLdec_A => some (.ldR16memA .hlDec)
  | .inc_SP => some (.incR16 .sp)
  | .inc_mHL => some (.incR8 .hlInd)
  | .dec_mHL => some (.decR8 .hlInd)
  | .scf => some .scf
  | .add_HL_SP => some (.addHlR16 .sp)
  | .ld_A_mHLdec => some (.ldAR16mem .hlDec)
  | .dec_SP => some (.decR16 .sp)
  | .inc_A => some (.incR8 .a)
  | .dec_A => some (.decR8 .a)
  | .ccf => some .ccf
  | .ld_B_B => some (.ldR8R8 .b .b)
  | .ld_B_C => some (.ldR8R8 .b .c)
  | .ld_B_D => some (.ldR8R8 .b .d)
  | .ld_B_E => some (.ldR8R8 .b .e)
  | .ld_B_H => some (.ldR8R8 .b .h)
  | .ld_B_L => some (.ldR8R8 .b .l)
  | .ld_B_mHL => some (.ldR8R8 .b .hlInd)
  | .ld_B_A => some (.ldR8R8 .b .a)
  | .ld_C_B => some (.ldR8R8 .c .b)
  | .ld_C_C => some (.ldR8R8 .c .c)
  | .ld_C_D => some (.ldR8R8 .c .d)
  | .ld_C_E => some (.ldR8R8 .c .e)
  | .ld_C_H => some (.ldR8R8 .c .h)
  | .ld_C_L => some (.ldR8R8 .c .l)
  | .ld_C_mHL => some (.ldR8R8 .c .hlInd)
  | .ld_C_A => some (.ldR8R8 .c .a)
  | .ld_D_B => some (.ldR8R8 .d .b)
  | .ld_D_C => some (.ldR8R8 .d .c)
  | .ld_D_D => some (.ldR8R8 .d .d)
  | .ld_D_E => some (.ldR8R8 .d .e)
  | .ld_D_H => some (.ldR8R8 .d .h)
  | .ld_D_L => some (.ldR8R8 .d .l)
  | .ld_D_mHL => some (.ldR8R8 .d .hlInd)
  | .ld_D_A => some (.ldR8R8 .d .a)
  | .ld_E_B => some (.ldR8R8 .e .b)
  | .ld_E_C => some (.ldR8R8 .e .c)
  | .ld_E_D => some (.ldR8R8 .e .d)
  | .ld_E_E => some (.ldR8R8 .e .e)
  | .ld_E_H => some (.ldR8R8 .e .h)
  | .ld_E_L => some (.ldR8R8 .e .l)
  | .ld_E_mHL => some (.ldR8R8 .e .hlInd)
  | .ld_E_A => some (.ldR8R8 .e .a)
  | .ld_H_B => some (.ldR8R8 .h .b)
  | .ld_H_C => some (.ldR8R8 .h .c)
  | .ld_H_D => some (.ldR8R8 .h .d)
  | .ld_H_E => some (.ldR8R8 .h .e)
  | .ld_H_H => some (.ldR8R8 .h .h)
  | .ld_H_L => some (.ldR8R8 .h .l)
  | .ld_H_mHL => some (.ldR8R8 .h .hlInd)
  | .ld_H_A => some (.ldR8R8 .h .a)
  | .ld_L_B => some (.ldR8R8 .l .b)
  | .ld_L_C => some (.ldR8R8 .l .c)
  | .ld_L_D => some (.ldR8R8 .l .d)
  | .ld_L_E => some (.ldR8R8 .l .e)
  | .ld_L_H => some (.ldR8R8 .l .h)
  | .ld_L_L => some (.ldR8R8 .l .l)
  | .ld_L_mHL => some (.ldR8R8 .l .hlInd)
  | .ld_L_A => some (.ldR8R8 .l .a)
  | .ld_mHL_B => some (.ldR8R8 .hlInd .b)
  | .ld_mHL_C => some (.ldR8R8 .hlInd .c)
  | .ld_mHL_D => some (.ldR8R8 .hlInd .d)
  | .ld_mHL_E => some (.ldR8R8 .hlInd .e)
  | .ld_mHL_H => some (.ldR8R8 .hlInd .h)
  | .ld_mHL_L => some (.ldR8R8 .hlInd .l)
  | .halt => some .halt
  | .ld_mHL_A => some (.ldR8R8 .hlInd .a)
  | .ld_A_B => some (.ldR8R8 .a .b)
  | .ld_A_C => some (.ldR8R8 .a .c)
  | .ld_A_D => some (.ldR8R8 .a .d)
  | .ld_A_E => some (.ldR8R8 .a .e)
  | .ld_A_H => some (.ldR8R8 .a .h)
  | .ld_A_L => some (.ldR8R8 .a .l)
  | .ld_A_mHL => some (.ldR8R8 .a .hlInd)
  | .ld_A_A => some (.ldR8R8 .a .a)
  | .add_A_B => some (.aluR8 .add .b)
  | .add_A_C => some (.aluR8 .add .c)
  | .add_A_D => some (.aluR8 .add .d)
  | .add_A_E => some (.aluR8 .add .e)
  | .add_A_H => some (.aluR8 .add .h)
  | .add_A_L => some (.aluR8 .add .l)
  | .add_A_mHL => some (.aluR8 .add .hlInd)
  | .add_A_A => some (.aluR8 .add .a)
  | .adc_A_B => some (.aluR8 .adc .b)
  | .adc_A_C => some (.aluR8 .adc .c)
  | .adc_A_D => some (.aluR8 .adc .d)
  | .adc_A_E => some (.aluR8 .adc .e)
  | .adc_A_H => some (.aluR8 .adc .h)
  | .adc_A_L => some (.aluR8 .adc .l)
  | .adc_A_mHL => some (.aluR8 .adc .hlInd)
  | .adc_A_A => some (.aluR8 .adc .a)
  | .sub_B => some (.aluR8 .sub .b)
  | .sub_C => some (.aluR8 .sub .c)
  | .sub_D => some (.aluR8 .sub .d)
  | .sub_E => some (.aluR8 .sub .e)
  | .sub_H => some (.aluR8 .sub .h)
  | .sub_L => some (.aluR8 .sub .l)
  | .sub_mHL => some (.aluR8 .sub .hlInd)
  | .sub_A => some (.aluR8 .sub .a)
  | .sbc_A_B => some (.aluR8 .sbc .b)
  | .sbc_A_C => some (.aluR8 .sbc .c)
  | .sbc_A_D => some (.aluR8 .sbc .d)
  | .sbc_A_E => some (.aluR8 .sbc .e)
  | .sbc_A_H => some (.aluR8 .sbc .h)
  | .sbc_A_L => some (.aluR8 .sbc .l)
  | .sbc_A_mHL => some (.aluR8 .sbc .hlInd)
  | .sbc_A_A => some (.aluR8 .sbc .a)
  | .and_B => some (.aluR8 .and .b)
  | .and_C => some (.aluR8 .and .c)
  | .and_D => some (.aluR8 .and .d)
  | .and_E => some (.aluR8 .and .e)
  | .and_H => some (.aluR8 .and .h)
  | .and_L => some (.aluR8 .and .l)
  | .and_mHL => some (.aluR8 .and .hlInd)
  | .and_A => some (.aluR8 .and .a)
  | .xor_B => some (.aluR8 .xor .b)
  | .xor_C => some (.aluR8 .xor .c)
  | .xor_D => some (.aluR8 .xor .d)
  | .xor_E => some (.aluR8 .xor .e)
  | .xor_H => some (.aluR8 .xor .h)
  | .xor_L => some (.aluR8 .xor .l)
  | .xor_mHL => some (.aluR8 .xor .hlInd)
  | .xor_A => some (.aluR8 .xor .a)
  | .or_B => some (.aluR8 .or .b)
  | .or_C => some (.aluR8 .or .c)
  | .or_D => some (.aluR8 .or .d)
  | .or_E => some (.aluR8 .or .e)
  | .or_H => some (.aluR8 .or .h)
  | .or_L => some (.aluR8 .or .l)
  | .or_mHL => some (.aluR8 .or .hlInd)
  | .or_A => some (.aluR8 .or .a)
  | .cp_B => some (.aluR8 .cp .b)
  | .cp_C => some (.aluR8 .cp .c)
  | .cp_D => some (.aluR8 .cp .d)
  | .cp_E => some (.aluR8 .cp .e)
  | .cp_H => some (.aluR8 .cp .h)
  | .cp_L => some (.aluR8 .cp .l)
  | .cp_mHL => some (.aluR8 .cp .hlInd)
  | .cp_A => some (.aluR8 .cp .a)
  | .ret_NZ => some (.retCc .nz)
  | .pop_BC => some (.pop .bc)
  | .push_BC => some (.push .bc)
  | .rst_0x00 => some (.rst 0)
  | .ret_Z => some (.retCc .z)
  | .ret => some .ret
  | .rst_0x08 => some (.rst 1)
  | .ret_NC => some (.retCc .nc)
  | .pop_DE => some (.pop .de)
  | .push_DE => some (.push .de)
  | .rst_0x10 => some (.rst 2)
  | .ret_C => some (.retCc .c)
  | .reti => some .reti
  | .rst_0x18 => some (.rst 3)
  | .pop_HL => some (.pop .hl)
  | .ld_mC_A => some .ldhCA
  | .push_HL => some (.push .hl)
  | .rst_0x20 => some (.rst 4)
  | .jp_HL => some .jpHl
  | .rst_0x28 => some (.rst 5)
  | .pop_AF => some (.pop .af)
  | .ld_A_mC => some .ldhAC
  | .di => some .di
  | .push_AF => some (.push .af)
  | .rst_0x30 => some (.rst 6)
  | .ld_SP_HL => some .ldSpHl
  | .ei => some .ei
  | .rst_0x38 => some (.rst 7)
  | .rlc_B => some (.rot .rlc .b)
  | .rlc_C => some (.rot .rlc .c)
  | .rlc_D => some (.rot .rlc .d)
  | .rlc_E => some (.rot .rlc .e)
  | .rlc_H => some (.rot .rlc .h)
  | .rlc_L => some (.rot .rlc .l)
  | .rlc_mHL => some (.rot .rlc .hlInd)
  | .rlc_A => some (.rot .rlc .a)
  | .rrc_B => some (.rot .rrc .b)
  | .rrc_C => some (.rot .rrc .c)
  | .rrc_D => some (.rot .rrc .d)
  | .rrc_E => some (.rot .rrc .e)
  | .rrc_H => some (.rot .rrc .h)
  | .rrc_L => some (.rot .rrc .l)
  | .rrc_mHL => some (.rot .rrc .hlInd)
  | .rrc_A => some (.rot .rrc .a)
  | .rl_B => some (.rot .rl .b)
  | .rl_C => some (.rot .rl .c)
  | .rl_D => some (.rot .rl .d)
  | .rl_E => some (.rot .rl .e)
  | .rl_H => some (.rot .rl .h)
  | .rl_L => some (.rot .rl .l)
  | .rl_mHL => some (.rot .rl .hlInd)
  | .rl_A => some (.rot .rl .a)
  | .rr_B => some (.rot .rr .b)
  | .rr_C => some (.rot .rr .c)
  | .rr_D => some (.rot .rr .d)
  | .rr_E => some (.rot .rr .e)
  | .rr_H => some (.rot .rr .h)
  | .rr_L => some (.rot .rr .l)
  | .rr_mHL => some (.rot .rr .hlInd)
  | .rr_A => some (.rot .rr .a)
  | .sla_B => some (.rot .sla .b)
  | .sla_C => some (.rot .sla .c)
  | .sla_D => some (.rot .sla .d)
  | .sla_E => some (.rot .sla .e)
  | .sla_H => some (.rot .sla .h)
  | .sla_L => some (.rot .sla .l)
  | .sla_mHL => some (.rot .sla .hlInd)
  | .sla_A => some (.rot .sla .a)
  | .sra_B => some (.rot .sra .b)
  | .sra_C => some (.rot .sra .c)
  | .sra_D => some (.rot .sra .d)
  | .sra_E => some (.rot .sra .e)
  | .sra_H => some (.rot .sra .h)
  | .sra_L => some (.rot .sra .l)
  | .sra_mHL => some (.rot .sra .hlInd)
  | .sra_A => some (.rot .sra .a)
  | .swap_B => some (.rot .swap .b)
  | .swap_C => some (.rot .swap .c)
  | .swap_D => some (.rot .swap .d)
  | .swap_E => some (.rot .swap .e)
  | .swap_H => some (.rot .swap .h)
  | .swap_L => some (.rot .swap .l)
  | .swap_mHL => some (.rot .swap .hlInd)
  | .swap_A => some (.rot .swap .a)
  | .srl_B => some (.rot .srl .b)
  | .srl_C => some (.rot .srl .c)
  | .srl_D => some (.rot .srl .d)
  | .srl_E => some (.rot .srl .e)
  | .srl_H => some (.rot .srl .h)
  | .srl_L => some (.rot .srl .l)
  | .srl_mHL => some (.rot .srl .hlInd)
  | .srl_A => some (.rot .srl .a)
  | .bit_0_B => some (.bit 0 .b)
  | .bit_0_C => some (.bit 0 .c)
  | .bit_0_D => some (.bit 0 .d)
  | .bit_0_E => some (.bit 0 .e)
  | .bit_0_H => some (.bit 0 .h)
  | .bit_0_L => some (.bit 0 .l)
  | .bit_0_mHL => some (.bit 0 .hlInd)
  | .bit_0_A => some (.bit 0 .a)
  | .bit_1_B => some (.bit 1 .b)
  | .bit_1_C => some (.bit 1 .c)
  | .bit_1_D => some (.bit 1 .d)
  | .bit_1_E => some (.bit 1 .e)
  | .bit_1_H => some (.bit 1 .h)
  | .bit_1_L => some (.bit 1 .l)
  | .bit_1_mHL => some (.bit 1 .hlInd)
  | .bit_1_A => some (.bit 1 .a)
  | .bit_2_B => some (.bit 2 .b)
  | .bit_2_C => some (.bit 2 .c)
  | .bit_2_D => some (.bit 2 .d)
  | .bit_2_E => some (.bit 2 .e)
  | .bit_2_H => some (.bit 2 .h)
  | .bit_2_L => some (.bit 2 .l)
  | .bit_2_mHL => some (.bit 2 .hlInd)
  | .bit_2_A => some (.bit 2 .a)
  | .bit_3_B => some (.bit 3 .b)
  | .bit_3_C => some (.bit 3 .c)
  | .bit_3_D => some (.bit 3 .d)
  | .bit_3_E => some (.bit 3 .e)
  | .bit_3_H => some (.bit 3 .h)
  | .bit_3_L => some (.bit 3 .l)
  | .bit_3_mHL => some (.bit 3 .hlInd)
  | .bit_3_A => some (.bit 3 .a)
  | .bit_4_B => some (.bit 4 .b)
  | .bit_4_C => some (.bit 4 .c)
  | .bit_4_D => some (.bit 4 .d)
  | .bit_4_E => some (.bit 4 .e)
  | .bit_4_H => some (.bit 4 .h)
  | .bit_4_L => some (.bit 4 .l)
  | .bit_4_mHL => some (.bit 4 .hlInd)
  | .bit_4_A => some (.bit 4 .a)
  | .bit_5_B => some (.bit 5 .b)
  | .bit_5_C => some (.bit 5 .c)
  | .bit_5_D => some (.bit 5 .d)
  | .bit_5_E => some (.bit 5 .e)
  | .bit_5_H => some (.bit 5 .h)
  | .bit_5_L => some (.bit 5 .l)
  | .bit_5_mHL => some (.bit 5 .hlInd)
  | .bit_5_A => some (.bit 5 .a)
  | .bit_6_B => some (.bit 6 .b)
  | .bit_6_C => some (.bit 6 .c)
  | .bit_6_D => some (.bit 6 .d)
  | .bit_6_E => some (.bit 6 .e)
  | .bit_6_H => some (.bit 6 .h)
  | .bit_6_L => some (.bit 6 .l)
  | .bit_6_mHL => some (.bit 6 .hlInd)
  | .bit_6_A => some (.bit 6 .a)
  | .bit_7_B => some (.bit 7 .b)
  | .bit_7_C => some (.bit 7 .c)
  | .bit_7_D => some (.bit 7 .d)
  | .bit_7_E => some (.bit 7 .e)
  | .bit_7_H => some (.bit 7 .h)
  | .bit_7_L => some (.bit 7 .l)
  | .bit_7_mHL => some (.bit 7 .hlInd)
  | .bit_7_A => some (.bit 7 .a)
  | .res_0_B => some (.res 0 .b)
  | .res_0_C => some (.res 0 .c)
  | .res_0_D => some (.res 0 .d)
  | .res_0_E => some (.res 0 .e)
  | .res_0_H => some (.res 0 .h)
  | .res_0_L => some (.res 0 .l)
  | .res_0_mHL => some (.res 0 .hlInd)
  | .res_0_A => some (.res 0 .a)
  | .res_1_B => some (.res 1 .b)
  | .res_1_C => some (.res 1 .c)
  | .res_1_D => some (.res 1 .d)
  | .res_1_E => some (.res 1 .e)
  | .res_1_H => some (.res 1 .h)
  | .res_1_L => some (.res 1 .l)
  | .res_1_mHL => some (.res 1 .hlInd)
  | .res_1_A => some (.res 1 .a)
  | .res_2_B => some (.res 2 .b)
  | .res_2_C => some (.res 2 .c)
  | .res_2_D => some (.res 2 .d)
  | .res_2_E => some (.res 2 .e)
  | .res_2_H => some (.res 2 .h)
  | .res_2_L => some (.res 2 .l)
  | .res_2_mHL => some (.res 2 .hlInd)
  | .res_2_A => some (.res 2 .a)
  | .res_3_B => some (.res 3 .b)
  | .res_3_C => some (.res 3 .c)
  | .res_3_D => some (.res 3 .d)
  | .res_3_E => some (.res 3 .e)
  | .res_3_H => some (.res 3 .h)
  | .res_3_L => some (.res 3 .l)
  | .res_3_mHL => some (.res 3 .hlInd)
  | .res_3_A => some (.res 3 .a)
  | .res_4_B => some (.res 4 .b)
  | .res_4_C => some (.res 4 .c)
  | .res_4_D => some (.res 4 .d)
  | .res_4_E => some (.res 4 .e)
  | .res_4_H => some (.res 4 .h)
  | .res_4_L => some (.res 4 .l)
  | .res_4_mHL => some (.res 4 .hlInd)
  | .res_4_A => some (.res 4 .a)
  | .res_5_B => some (.res 5 .b)
  | .res_5_C => some (.res 5 .c)
  | .res_5_D => some (.res 5 .d)
  | .res_5_E => some (.res 5 .e)
  | .res_5_H => some (.res 5 .h)
  | .res_5_L => some (.res 5 .l)
  | .res_5_mHL => some (.res 5 .hlInd)
  | .res_5_A => some (.res 5 .a)
  | .res_6_B => some (.res 6 .b)
  | .res_6_C => some (.res 6 .c)
  | .res_6_D => some (.res 6 .d)
  | .res_6_E => some (.res 6 .e)
  | .res_6_H => some (.res 6 .h)
  | .res_6_L => some (.res 6 .l)
  | .res_6_mHL => some (.res 6 .hlInd)
  | .res_6_A => some (.res 6 .a)
  | .res_7_B => some (.res 7 .b)
  | .res_7_C => some (.res 7 .c)
  | .res_7_D => some (.res 7 .d)
  | .res_7_E => some (.res 7 .e)
  | .res_7_H => some (.res 7 .h)
  | .res_7_L => some (.res 7 .l)
  | .res_7_mHL => some (.res 7 .hlInd)
  | .res_7_A => some (.res 7 .a)
  | .set_0_B => some (.set 0 .b)
  | .set_0_C => some (.set 0 .c)
  | .set_0_D => some (.set 0 .d)
  | .set_0_E => some (.set 0 .e)
  | .set_0_H => some (.set 0 .h)
  | .set_0_L => some (.set 0 .l)
  | .set_0_mHL => some (.set 0 .hlInd)
  | .set_0_A => some (.set 0 .a)
  | .set_1_B => some (.set 1 .b)
  | .set_1_C => some (.set 1 .c)
  | .set_1_D => some (.set 1 .d)
  | .set_1_E => some (.set 1 .e)
  | .set_1_H => some (.set 1 .h)
  | .set_1_L => some (.set 1 .l)
  | .set_1_mHL => some (.set 1 .hlInd)
  | .set_1_A => some (.set 1 .a)
  | .set_2_B => some (.set 2 .b)
  | .set_2_C => some (.set 2 .c)
  | .set_2_D => some (.set 2 .d)
  | .set_2_E => some (.set 2 .e)
  | .set_2_H => some (.set 2 .h)
  | .set_2_L => some (.set 2 .l)
  | .set_2_mHL => some (.set 2 .hlInd)
  | .set_2_A => some (.set 2 .a)
  | .set_3_B => some (.set 3 .b)
  | .set_3_C => some (.set 3 .c)
  | .set_3_D => some (.set 3 .d)
  | .set_3_E => some (.set 3 .e)
  | .set_3_H => some (.set 3 .h)
  | .set_3_L => some (.set 3 .l)
  | .set_3_mHL => some (.set 3 .hlInd)
  | .set_3_A => some (.set 3 .a)
  | .set_4_B => some (.set 4 .b)
  | .set_4_C => some (.set 4 .c)
  | .set_4_D => some (.set 4 .d)
  | .set_4_E => some (.set 4 .e)
  | .set_4_H => some (.set 4 .h)
  | .set_4_L => some (.set 4 .l)
  | .set_4_mHL => some (.set 4 .hlInd)
  | .set_4_A => some (.set 4 .a)
  | .set_5_B => some (.set 5 .b)
  | .set_5_C => some (.set 5 .c)
  | .set_5_D => some (.set 5 .d)
  | .set_5_E => some (.set 5 .e)
  | .set_5_H => some (.set 5 .h)
  | .set_5_L => some (.set 5 .l)
  | .set_5_mHL => some (.set 5 .hlInd)
  | .set_5_A => some (.set 5 .a)
  | .set_6_B => some (.set 6 .b)
  | .set_6_C => some (.set 6 .c)
  | .set_6_D => some (.set 6 .d)
  | .set_6_E => some (.set 6 .e)
  | .set_6_H => some (.set 6 .h)
  | .set_6_L => some (.set 6 .l)
  | .set_6_mHL => some (.set 6 .hlInd)
  | .set_6_A => some (.set 6 .a)
  | .set_7_B => some (.set 7 .b)
  | .set_7_C => some (.set 7 .c)
  | .set_7_D => some (.set 7 .d)
  | .set_7_E => some (.set 7 .e)
  | .set_7_H => some (.set 7 .h)
  | .set_7_L => some (.set 7 .l)
  | .set_7_mHL => some (.set 7 .hlInd)
  | .set_7_A => some (.set 7 .a)

end Sys2Proof
end

