-- ==== Sys2Proof/Machine/CycleTable.lean ====
section
/-! DEFINITION. The cycle table, the parameter `cycles` of R7 (spec/00_scope.md, D34), with the table of R350
(spec/70_reset_and_hazards.md) as its default. Timing only: a step reads the table for its report and for nothing else. -/

namespace Sys2Proof

/-- One row of the table (R350): one value, or a value not taken and a value taken. -/
inductive CycleRow where
  | always (n : Nat)
  | branch (notTaken taken : Nat)
deriving DecidableEq, Repr

/-- The row's value (R350): its second value when taken, its first when not. -/
def CycleRow.count (taken : Bool) : CycleRow → Nat
  | .always n => n
  | .branch n t => if taken then t else n

/-- A table of cycle counts, as the opcode table has it: one row for each opcode byte, and one for each byte after the
prefix. A byte that a table does not reach has no cycles. -/
structure CycleTable where
  plain    : List CycleRow
  prefixed : List CycleRow
deriving DecidableEq, Repr

/-- The row of an instruction, by its bytes (R92: the byte after 0xCB is the second opcode byte). -/
def CycleTable.row (t : CycleTable) : List Byte → CycleRow
  | [] => .always 0
  | op :: rest =>
    if op = 0xCB then t.prefixed.getD (rest.headD 0).toNat (.always 0) else t.plain.getD op.toNat (.always 0)

/-- The conditional forms, which set `taken`; every other form is always taken (spec/43_control.md). -/
def Descriptor.conditional : Descriptor → Bool
  | .jrCcE8 _ | .jpCcA16 _ | .callCcA16 _ | .retCc _ => true
  | _ => false

/-- Whether the operand is the memory byte at HL. -/
def R8.isMem : R8 → Bool
  | .hlInd => true
  | _ => false

/-- The table of R350, group by group. -/
def Descriptor.cycleRow : Descriptor → CycleRow
  | .nop | .stop | .halt | .di | .ei => .always 4
  | .daa | .cpl | .scf | .ccf | .rlca | .rrca | .rla | .rra | .jpHl => .always 4
  | .ldR8R8 dst r => .always (if dst.isMem || r.isMem then 8 else 4)
  | .aluR8 _ r => .always (if r.isMem then 8 else 4)
  | .aluN8 _ => .always 8
  | .incR8 r | .decR8 r => .always (if r.isMem then 12 else 4)
  | .ldR8N8 dst => .always (if dst.isMem then 12 else 8)
  | .ldR16memA _ | .ldAR16mem _ | .ldhCA | .ldhAC => .always 8
  | .incR16 _ | .decR16 _ | .addHlR16 _ | .ldSpHl => .always 8
  | .ldR16N16 _ | .ldhA8A | .ldhAA8 | .ldHlSpE8 | .pop _ | .jrE8 => .always 12
  | .ldA16A | .ldAA16 | .jpA16 | .push _ | .ret | .reti | .rst _ | .addSpE8 => .always 16
  | .ldA16Sp => .always 20
  | .callA16 => .always 24
  | .jrCcE8 _ => .branch 8 12
  | .jpCcA16 _ => .branch 12 16
  | .callCcA16 _ => .branch 12 24
  | .retCc _ => .branch 8 20
  | .bit _ r => .always (if r.isMem then 12 else 8)
  | .rot _ r | .res _ r | .set _ r => .always (if r.isMem then 16 else 8)

/-- The row of a decode result: the escape has no row of its own, and an unmapped byte reports 0 (R351). -/
def DecodeResult.cycleRow (r : DecodeResult) : CycleRow :=
  match r.descriptor? with
  | some d => d.cycleRow
  | none => .always 0

/-- The default of the parameter `cycles` (R7, R350): each byte of both opcode spaces with the row of what it decodes to. -/
def CycleTable.default : CycleTable where
  plain    := (List.range 256).map fun k => (decodeFields (BitVec.ofNat 8 k) false).cycleRow
  prefixed := (List.range 256).map fun k => (decodeFields (BitVec.ofNat 8 k) true).cycleRow

end Sys2Proof
end

