-- ==== Sys2Proof/Config.lean ====
section
/-! DEFINITION. What the spec leaves to an implementation: the named parameters of R7 (spec/00_scope.md) with the
spec's own defaults, and the answers of the two external owners (R58, R59 of spec/20_memory.md), which are free values.

The parameters are plain data and State carries them (`State.params`), so that a theorem about every state holds for
every choice of them; no step changes them. -/

namespace Sys2Proof

/-- `halt_bug_mode` (R7, D4): whether HALT with IME = 0 and a request pending arms the double fetch. -/
inductive HaltBugMode where
  | reproduce | cleanSuspend
deriving DecidableEq, Repr

/-- `echo_mode` (R7, D14): echo RAM has its own bytes, or is a second view of working RAM. -/
inductive EchoMode where
  | distinct | mirrorWram
deriving DecidableEq, Repr

/-- The parameters of R7 that are values. `eiDelay` is `ei_delay = 1`. -/
structure Params where
  eiDelay        : Bool
  haltBugMode    : HaltBugMode
  haltIdleCycles : Nat
  echoMode       : EchoMode
  ifUnusedRead   : BitVec 3
  lySentinel     : Byte
  cycles         : CycleTable
deriving DecidableEq, Repr

/-- The defaults of R7, the spec's own choices (92_eei_decisions.md D3, D4, D6, D14, D19, D21, D34). -/
def Params.default : Params where
  eiDelay        := true
  haltBugMode    := .reproduce
  haltIdleCycles := 4
  echoMode       := .distinct
  ifUnusedRead   := 0b111
  lySentinel     := 0x90
  cycles         := CycleTable.default

/-- What the cartridge answers at a bus address after the writes it has received, newest first (R58). FREE VALUE: the
core assumes nothing of it. -/
opaque Config.cartRead : List Host.Cell → Word → Byte

/-- What the video-memory owner answers at an offset after the writes it has received, newest first (R59), a repeated write
being one write (R67). FREE VALUE. -/
opaque Config.vramRead : List Host.Cell → Word → Byte

end Sys2Proof
end

