-- ==== Sys2Proof/Machine/State.lean ====
section
/-! DEFINITION. The state of the machine as plain data (CoreState and R40 of spec/10_state.md, R335 of
spec/60_exceptions.md), the ways a step stops, and the state right after reset. -/

namespace Sys2Proof.Machine

/-- The register file (R20). F is one byte (R24); its low nibble is never stored and never read (R22). -/
structure Regs where
  a : Byte
  f : Byte
  b : Byte
  c : Byte
  d : Byte
  e : Byte
  h : Byte
  l : Byte
deriving DecidableEq, Repr

/-- The five interrupt sources in the order of their bits and priorities (R301). -/
inductive Source where
  | vblank | stat | timer | serial | joypad
deriving DecidableEq, Repr

/-- The record of a decode failure (R38, R310). -/
structure DecodeFailure where
  pc       : Word
  opcode   : Byte
  prefixed : Bool
deriving DecidableEq, Repr

/-- The reasons of a refusal that the spec names (R311). -/
inductive RefusalReason where
  | haltBugDispatch
deriving DecidableEq, Repr

/-- The report of a step (R335): its outcome and its clock cycles. A fault and a refusal report 0 cycles (R351). -/
inductive Report where
  | executed (i : Instr) (cycles : Nat)
  | dispatched (src : Source) (cycles : Nat)
  | idle (cycles : Nat)
  | fault (r : DecodeFailure) (cycles : Nat)
  | refused (r : RefusalReason) (cycles : Nat)
deriving DecidableEq, Repr

/-- The state of an external owner (R58, R59) as data: the answers the host has fixed (`image`, by address or offset,
rising, whatever is written) and the writes received, newest first. Every answer not fixed is a free value of the writes
(`Config.cartRead`, `Config.vramRead`), so an empty `image` is an owner of which nothing is assumed. -/
structure External where
  image  : List Host.Cell
  writes : List Host.Cell
deriving DecidableEq, Repr

/-- The machine. From `regs` to `refused` this is the spec's CoreState; `bootRom`, `cart`, `vram` and `params` are what R40
and R7 carry beside it; `taken` and `report` hold what a step records and returns (R300, R335). `mem` holds the bus-owned
flat storage of R39 (wram, echo, oam, io, hram) by bus address. -/
structure State where
  regs       : Regs
  sp         : Word
  pc         : Word
  ime        : Bool
  ie         : Byte
  intFlag    : BitVec 5
  eiPending  : Bool
  halted     : Bool
  stopped    : Bool
  haltBug    : Bool
  bootMapped : Bool
  mem        : List Host.Cell
  fault      : Option DecodeFailure
  refused    : Option RefusalReason
  bootRom    : List Host.Cell
  cart       : External
  vram       : External
  params     : Params
  taken      : Bool
  report     : Option Report
deriving DecidableEq, Repr

/-- Why a step answers no next state. -/
inductive Fault where
  /-- Raised by `step` in a state whose fault record is set (R300, R310: the core has no further step). Safe: the record was
  set by an earlier step, which answered a next state. -/
  | decodeFailure (r : DecodeFailure)
  /-- Raised by `step` in the STOP state (R300, R333: no step until the host's wake). Safe: `HostMove.wake` resumes it. -/
  | stopped
deriving DecidableEq, Repr

/-- Why a step is refused. -/
inductive Refusal where
  /-- For an arm of `exec` that has no meaning yet. Raised by no arm. Safe. -/
  | notModelled (mnemonic : String)
  /-- Raised by `step` in a state whose refusal record is set (R300, R311: the model takes no further step). Safe: the spec
  gives the case no meaning. -/
  | haltBugDispatch
deriving DecidableEq, Repr

/-- What a meaning and a step answer. -/
abbrev Out := Host.Outcome State Fault Refusal

/-- The machine right after power-on (R41, R340), the draws of R41 all zero (log entries 1 to 5 and 7). -/
def State.reset : State where
  regs       := { a := 0, f := 0, b := 0, c := 0, d := 0, e := 0, h := 0, l := 0 }
  sp         := 0
  pc         := 0
  ime        := false
  ie         := 0
  intFlag    := 0
  eiPending  := false
  halted     := false
  stopped    := false
  haltBug    := false
  bootMapped := true
  mem        := []
  fault      := none
  refused    := none
  bootRom    := []
  cart       := { image := [], writes := [] }
  vram       := { image := [], writes := [] }
  params     := Params.default
  taken      := false
  report     := none

end Sys2Proof.Machine
end

