-- ==== Sys2Proof/Machine/Ops.lean ====
section
/-! DEFINITION. The named operations on the state: registers, pairs and flags (spec/10_state.md), the bus
(spec/20_memory.md), the stack (spec/44_stack.md), taking an interrupt, the decode failure and the end of an instruction
(spec/60_exceptions.md, spec/45_cpu_control.md). Every one of them is total. -/

namespace Sys2Proof.Machine

/-! ### Registers, pairs and flags -/

/-- The eight register names of R20. -/
inductive Reg where
  | a | f | b | c | d | e | h | l
deriving DecidableEq, Repr

/-- `r[X]` (R9); F's low nibble reads 0 (R22). -/
def Regs.get (r : Regs) : Reg → Byte
  | .a => r.a
  | .f => r.f &&& 0xF0
  | .b => r.b
  | .c => r.c
  | .d => r.d
  | .e => r.e
  | .h => r.h
  | .l => r.l

/-- `r[X] <- v` (R9); a write of F stores `v & 0xF0` (R22). -/
def Regs.put (r : Regs) (x : Reg) (v : Byte) : Regs :=
  match x with
  | .a => { r with a := v }
  | .f => { r with f := v &&& 0xF0 }
  | .b => { r with b := v }
  | .c => { r with c := v }
  | .d => { r with d := v }
  | .e => { r with e := v }
  | .h => { r with h := v }
  | .l => { r with l := v }

def State.reg (s : State) (x : Reg) : Byte := s.regs.get x

def State.setReg (s : State) (x : Reg) (v : Byte) : State := { s with regs := s.regs.put x v }

/-- `SP <- v` (R9, R26). -/
def State.setSp (s : State) (v : Word) : State := { s with sp := v }

/-- The pair views of R21. -/
inductive Pair where
  | af | bc | de | hl
deriving DecidableEq, Repr

def Pair.hi : Pair → Reg
  | .af => .a | .bc => .b | .de => .d | .hl => .h

def Pair.lo : Pair → Reg
  | .af => .f | .bc => .c | .de => .e | .hl => .l

/-- `rr[P]` (R23). -/
def State.pair (s : State) (p : Pair) : Word := joinBytes (s.reg p.hi) (s.reg p.lo)

/-- `rr[P] <- v` (R23). -/
def State.setPair (s : State) (p : Pair) (v : Word) : State :=
  (s.setReg p.hi (hiByte v)).setReg p.lo (loByte v)

/-- `rr[HL]`. -/
def State.hl (s : State) : Word := s.pair .hl

/-- `flag.Z` (R24). -/
def State.flagZ (s : State) : Bool := s.regs.f.getLsbD 7
/-- `flag.N` (R24). -/
def State.flagN (s : State) : Bool := s.regs.f.getLsbD 6
/-- `flag.H` (R24). -/
def State.flagH (s : State) : Bool := s.regs.f.getLsbD 5
/-- `flag.C` (R24). -/
def State.flagC (s : State) : Bool := s.regs.f.getLsbD 4

/-- Write all four flags; a rule's unchanged flag is passed as its old value. -/
def State.setFlags (s : State) (z n h c : Bool) : State := s.setReg .f (packFlags z n h c)

/-! ### The bus -/

/-- The owners of the address map (R51). -/
inductive Owner where
  | bootRom | cart | vram | wram | echo | oam | io | intFlag | hram | intEnable
deriving DecidableEq, Repr

/-- The owner of an address for reads (R51, R60; C1 of spec/90_conflicts.md). -/
def ownerOf (bootMapped : Bool) (a : Word) : Owner :=
  if bootMapped = true ∧ a ≤ 0x00FF then .bootRom
  else if a ≤ 0x7FFF then .cart
  else if a ≤ 0x9FFF then .vram
  else if a ≤ 0xBFFF then .cart
  else if a ≤ 0xDFFF then .wram
  else if a ≤ 0xFDFF then .echo
  else if a ≤ 0xFEFF then .oam
  else if a = 0xFF0F then .intFlag
  else if a ≤ 0xFF7F then .io
  else if a ≤ 0xFFFE then .hram
  else .intEnable

/-- Where an echo address is stored (R61). -/
def echoAddr (mode : EchoMode) (a : Word) : Word :=
  match mode with
  | .distinct => a
  | .mirrorWram => a - 0x2000

/-- `cart.read` (R58). -/
def External.cartRead (x : External) (a : Word) : Byte :=
  (Memory.find a.toNat x.image).getD (Config.cartRead x.writes a)

/-- `vram.read` (R59). -/
def External.vramRead (x : External) (off : Word) : Byte :=
  (Memory.find off.toNat x.image).getD (Config.vramRead x.writes off)

/-- `cart.write` (R58): the write is received. -/
def External.cartWrite (x : External) (a : Word) (v : Byte) : External :=
  { x with writes := (a.toNat, v) :: x.writes }

/-- `vram.write` (R59): the write is received, unless it repeats the newest one, which leaves the same state (R67). -/
def External.vramWrite (x : External) (off : Word) (v : Byte) : External :=
  if x.writes.head? = some (off.toNat, v) then x else { x with writes := (off.toNat, v) :: x.writes }

/-- `BusRead` (R52). -/
def State.busRead (s : State) (a : Word) : Byte :=
  match ownerOf s.bootMapped a with
  | .bootRom => Memory.read s.bootRom a.toNat
  | .cart => s.cart.cartRead a
  | .vram => s.vram.vramRead (a - 0x8000)
  | .wram => Memory.read s.mem a.toNat
  | .echo => Memory.read s.mem (echoAddr s.params.echoMode a).toNat
  | .oam => Memory.read s.mem a.toNat
  | .io => if a = 0xFF44 then s.params.lySentinel else Memory.read s.mem a.toNat
  | .intFlag => s.params.ifUnusedRead ++ s.intFlag
  | .hram => Memory.read s.mem a.toNat
  | .intEnable => s.ie

/-- Store a byte in the bus-owned flat storage. -/
def State.memWrite (s : State) (a : Word) (v : Byte) : State := { s with mem := Memory.write s.mem a.toNat v }

/-- `BusWrite` (R53): a write to 0x0000-0x00FF goes to the cartridge whatever `boot_mapped` is (R60), and a write to 0xFF50
unmaps the boot ROM in the same access (R64). -/
def State.busWrite (s : State) (a : Word) (v : Byte) : State :=
  match ownerOf false a with
  | .bootRom => s
  | .cart => { s with cart := s.cart.cartWrite a v }
  | .vram => { s with vram := s.vram.vramWrite (a - 0x8000) v }
  | .wram => s.memWrite a v
  | .echo => s.memWrite (echoAddr s.params.echoMode a) v
  | .oam => s.memWrite a v
  | .io => if a = 0xFF50 then { s.memWrite a v with bootMapped := false } else s.memWrite a v
  | .intFlag => { s with intFlag := v.setWidth 5 }
  | .hram => s.memWrite a v
  | .intEnable => { s with ie := v }

/-! ### The stack -/

/-- `Push16` (R200): the high byte first, at the higher address. -/
def State.push16 (s : State) (v : Word) : State :=
  let s1 := s.setSp (s.sp - 1)
  let s2 := s1.busWrite s1.sp (hiByte v)
  let s3 := s2.setSp (s2.sp - 1)
  s3.busWrite s3.sp (loByte v)

/-- `Pop16` (R201): the low byte first. -/
def State.pop16 (s : State) : Word × State :=
  let lo := s.busRead s.sp
  let s1 := s.setSp (s.sp + 1)
  let hi := s1.busRead s1.sp
  (joinBytes hi lo, s1.setSp (s1.sp + 1))

/-! ### Control -/

/-- `pc <- target`. -/
def State.jump (s : State) (a : Word) : State := { s with pc := a }

/-- `Cond(cc)` (R10). -/
def State.cond (s : State) : Cond → Bool
  | .nz => !s.flagZ
  | .z => s.flagZ
  | .nc => !s.flagC
  | .c => s.flagC

/-! ### Interrupts and faults -/

/-- The bit of a source in IE and IF (R301). -/
def Source.bit : Source → Nat
  | .vblank => 0 | .stat => 1 | .timer => 2 | .serial => 3 | .joypad => 4

/-- The vector of a source: `0x0040 + 8 * bit` (R301). -/
def Source.vector (src : Source) : Word := BitVec.ofNat 16 (0x40 + 8 * src.bit)

/-- `pend = IE[4:0] & IF[4:0]` (R303). -/
def State.pend (s : State) : BitVec 5 := s.ie.setWidth 5 &&& s.intFlag

/-- The lowest set bit of `pend`, or none (R303). -/
def lowestSource (pend : BitVec 5) : Option Source :=
  if pend.getLsbD 0 then some .vblank
  else if pend.getLsbD 1 then some .stat
  else if pend.getLsbD 2 then some .timer
  else if pend.getLsbD 3 then some .serial
  else if pend.getLsbD 4 then some .joypad
  else none

/-- Clear one bit of IF. -/
def clearSource (f : BitVec 5) (src : Source) : BitVec 5 := f &&& ~~~((1 : BitVec 5) <<< src.bit)

/-- Set one bit of IF. -/
def raiseSource (f : BitVec 5) (src : Source) : BitVec 5 := f ||| ((1 : BitVec 5) <<< src.bit)

/-- Taking an interrupt, the one trap of the hardware (R302): push PC, clear IME and the pending EI, clear the source's IF
bit as it stands after the push, leave HALT, go to the vector. -/
def State.dispatch (s : State) (src : Source) : State :=
  let s1 := s.push16 s.pc
  { s1 with
    ime := false
    eiPending := false
    intFlag := clearSource s1.intFlag src
    halted := false
    pc := src.vector }

/-- The return from an interrupt (R190, R307): pop PC and set IME at once. -/
def State.returnFromInterrupt (s : State) : State :=
  let r := s.pop16
  { r.2 with pc := r.1, ime := true }

/-- The decode failure (R310): the record is set and nothing else changes. `s` is the state at the start of the step, whose
PC is the address of the byte. -/
def State.decodeFail (s : State) (op : Byte) : State :=
  { s with fault := some { pc := s.pc, opcode := op, prefixed := false } }

/-- The end of an instruction (R215): `w` is `ei_pending` at the start of the step. -/
def State.endInstr (s : State) (w isDi : Bool) : State :=
  if w && !isDi then { s with ime := true, eiPending := false } else s

end Sys2Proof.Machine
end

