-- ==== Sys2Proof/Machine/Operands.lean ====
section
/-! DEFINITION. Reading and writing an operand named by a selector (R10 of spec/00_scope.md), and the effective addresses of
spec/42_loads.md. -/

namespace Sys2Proof.Machine

/-- `ReadR8` (R10): `(HL)` is one bus read. -/
def State.readR8 (s : State) : R8 → Byte
  | .b => s.reg .b
  | .c => s.reg .c
  | .d => s.reg .d
  | .e => s.reg .e
  | .h => s.reg .h
  | .l => s.reg .l
  | .hlInd => s.busRead s.hl
  | .a => s.reg .a

/-- `WriteR8` (R10): `(HL)` is one bus write. -/
def State.writeR8 (s : State) (x : R8) (v : Byte) : State :=
  match x with
  | .b => s.setReg .b v
  | .c => s.setReg .c v
  | .d => s.setReg .d v
  | .e => s.setReg .e v
  | .h => s.setReg .h v
  | .l => s.setReg .l v
  | .hlInd => s.busWrite s.hl v
  | .a => s.setReg .a v

/-- `ReadR16` (R10). -/
def State.readR16 (s : State) : R16 → Word
  | .bc => s.pair .bc
  | .de => s.pair .de
  | .hl => s.pair .hl
  | .sp => s.sp

/-- `WriteR16` (R10). -/
def State.writeR16 (s : State) (x : R16) (v : Word) : State :=
  match x with
  | .bc => s.setPair .bc v
  | .de => s.setPair .de v
  | .hl => s.setPair .hl v
  | .sp => s.setSp v

/-- The pair of `r16stk` (R10). -/
def stkPair : R16Stk → Pair
  | .bc => .bc | .de => .de | .hl => .hl | .af => .af

/-- The address operand of `r16mem` (R155 to R160). -/
def State.memAddr (s : State) : R16Mem → Word
  | .bc => s.pair .bc
  | .de => s.pair .de
  | .hlInc => s.hl
  | .hlDec => s.hl

/-- The post-increment or post-decrement of `r16mem` (R156, R157, R159, R160). -/
def State.postStep (s : State) : R16Mem → State
  | .bc => s
  | .de => s
  | .hlInc => s.setPair .hl (s.hl + 1)
  | .hlDec => s.setPair .hl (s.hl - 1)

/-- `0xFF00 + zext_16(n)` (R163 to R166). -/
def highPage (n : Byte) : Word := 0xFF00 + zext16 n

end Sys2Proof.Machine
end

