-- ==== Sys2Proof/Machine/Accumulator.lean ====
section
/-! DEFINITION. Accumulator and flag operations (spec/46_accumulator_misc.md). -/

namespace Sys2Proof.Machine

/-- DAA (R230): N unchanged, H clear. -/
def daaOp (s : State) : State :=
  let x := daaResult (s.reg .a) s.flagN s.flagH s.flagC
  (s.setReg .a x.1).setFlags (decide (x.1 = 0)) s.flagN false x.2

/-- CPL (R231). -/
def cplOp (s : State) : State := (s.setReg .a (~~~(s.reg .a))).setFlags s.flagZ true true s.flagC

/-- SCF (R232). -/
def scfOp (s : State) : State := s.setFlags s.flagZ false false true

/-- CCF (R233). -/
def ccfOp (s : State) : State := s.setFlags s.flagZ false false (!s.flagC)

/-- RLCA, RRCA, RLA, RRA (R234 to R237): the rotate on A with Z always clear. -/
def rotA (op : RotOp) (s : State) : State :=
  let x := rotResult op (s.reg .a) s.flagC
  (s.setReg .a x.1).setFlags false false false x.2

/-- `RLCA` (07): R234. -/
def execRlca (s : State) : Out := .next (rotA .rlc s)

/-- `RRCA` (0F): R235. -/
def execRrca (s : State) : Out := .next (rotA .rrc s)

/-- `RLA` (17): R236. -/
def execRla (s : State) : Out := .next (rotA .rl s)

/-- `RRA` (1F): R237. -/
def execRra (s : State) : Out := .next (rotA .rr s)

/-- `DAA` (27): R230. -/
def execDaa (s : State) : Out := .next (daaOp s)

/-- `CPL` (2F): R231. -/
def execCpl (s : State) : Out := .next (cplOp s)

/-- `SCF` (37): R232. -/
def execScf (s : State) : Out := .next (scfOp s)

/-- `CCF` (3F): R233. -/
def execCcf (s : State) : Out := .next (ccfOp s)

end Sys2Proof.Machine
end

