-- ==== Sys2Proof/Machine/Alu16.lean ====
section
/-! DEFINITION. 16-bit arithmetic (spec/41_alu16.md). -/

namespace Sys2Proof.Machine

/-- ADD HL,r16 (R140): Z unchanged, N clear. -/
def addHlR16 (r : R16) (s : State) : State :=
  let x := addHlResult s.hl (s.readR16 r)
  (s.setPair .hl x.value).setFlags s.flagZ false x.h x.c

/-- INC r16 (R141): no flags. -/
def incR16 (r : R16) (s : State) : State := s.writeR16 r (s.readR16 r + 1)

/-- DEC r16 (R142): no flags. -/
def decR16 (r : R16) (s : State) : State := s.writeR16 r (s.readR16 r - 1)

/-- ADD SP,e8 (R143): Z and N clear. -/
def addSpE8 (e : Byte) (s : State) : State :=
  let x := addSpResult s.sp e
  (s.setSp x.value).setFlags false false x.h x.c

/-- `ADD SP,e8` (E8): R143. -/
def execAdd_SP_e8 (e : Byte) (s : State) : Out := .next (addSpE8 e s)

/-- `INC BC` (03): R141. -/
def execInc_BC (s : State) : Out := .next (incR16 .bc s)

/-- `ADD HL,BC` (09): R140. -/
def execAdd_HL_BC (s : State) : Out := .next (addHlR16 .bc s)

/-- `DEC BC` (0B): R142. -/
def execDec_BC (s : State) : Out := .next (decR16 .bc s)

/-- `INC DE` (13): R141. -/
def execInc_DE (s : State) : Out := .next (incR16 .de s)

/-- `ADD HL,DE` (19): R140. -/
def execAdd_HL_DE (s : State) : Out := .next (addHlR16 .de s)

/-- `DEC DE` (1B): R142. -/
def execDec_DE (s : State) : Out := .next (decR16 .de s)

/-- `INC HL` (23): R141. -/
def execInc_HL (s : State) : Out := .next (incR16 .hl s)

/-- `ADD HL,HL` (29): R140. -/
def execAdd_HL_HL (s : State) : Out := .next (addHlR16 .hl s)

/-- `DEC HL` (2B): R142. -/
def execDec_HL (s : State) : Out := .next (decR16 .hl s)

/-- `INC SP` (33): R141. -/
def execInc_SP (s : State) : Out := .next (incR16 .sp s)

/-- `ADD HL,SP` (39): R140. -/
def execAdd_HL_SP (s : State) : Out := .next (addHlR16 .sp s)

/-- `DEC SP` (3B): R142. -/
def execDec_SP (s : State) : Out := .next (decR16 .sp s)

end Sys2Proof.Machine
end

