-- ==== Sys2Proof/Machine/Alu8.lean ====
section
/-! DEFINITION. 8-bit arithmetic and logic (spec/40_alu8.md). -/

namespace Sys2Proof.Machine

/-- An `alu` operation on an operand byte (R120 to R128): A (except for CP) and all four flags. -/
def aluApply (op : AluOp) (v : Byte) (s : State) : State :=
  let r := aluResult op (s.reg .a) v s.flagC
  let s1 := match op with
    | .cp => s
    | _ => s.setReg .a r.value
  s1.setFlags r.z r.n r.h r.c

/-- `AluR8(op, r)` (R120). -/
def aluR8 (op : AluOp) (r : R8) (s : State) : State := aluApply op (s.readR8 r) s

/-- `AluN8(op)` (R120). -/
def aluN8 (op : AluOp) (n : Byte) (s : State) : State := aluApply op n s

/-- INC r8 (R129): read, write, then the flags; C unchanged. -/
def incR8 (r : R8) (s : State) : State :=
  let x := incResult (s.readR8 r) s.flagC
  (s.writeR8 r x.value).setFlags x.z x.n x.h x.c

/-- DEC r8 (R130). -/
def decR8 (r : R8) (s : State) : State :=
  let x := decResult (s.readR8 r) s.flagC
  (s.writeR8 r x.value).setFlags x.z x.n x.h x.c

/-- `ADD A,n8` (C6): R121. -/
def execAdd_A_n8 (n : Byte) (s : State) : Out := .next (aluN8 .add n s)

/-- `ADC A,n8` (CE): R122. -/
def execAdc_A_n8 (n : Byte) (s : State) : Out := .next (aluN8 .adc n s)

/-- `SUB n8` (D6): R123. -/
def execSub_n8 (n : Byte) (s : State) : Out := .next (aluN8 .sub n s)

/-- `SBC A,n8` (DE): R124. -/
def execSbc_A_n8 (n : Byte) (s : State) : Out := .next (aluN8 .sbc n s)

/-- `AND n8` (E6): R125. -/
def execAnd_n8 (n : Byte) (s : State) : Out := .next (aluN8 .and n s)

/-- `XOR n8` (EE): R126. -/
def execXor_n8 (n : Byte) (s : State) : Out := .next (aluN8 .xor n s)

/-- `OR n8` (F6): R127. -/
def execOr_n8 (n : Byte) (s : State) : Out := .next (aluN8 .or n s)

/-- `CP n8` (FE): R128. -/
def execCp_n8 (n : Byte) (s : State) : Out := .next (aluN8 .cp n s)

/-- `INC B` (04): R129. -/
def execInc_B (s : State) : Out := .next (incR8 .b s)

/-- `DEC B` (05): R130. -/
def execDec_B (s : State) : Out := .next (decR8 .b s)

/-- `INC C` (0C): R129. -/
def execInc_C (s : State) : Out := .next (incR8 .c s)

/-- `DEC C` (0D): R130. -/
def execDec_C (s : State) : Out := .next (decR8 .c s)

/-- `INC D` (14): R129. -/
def execInc_D (s : State) : Out := .next (incR8 .d s)

/-- `DEC D` (15): R130. -/
def execDec_D (s : State) : Out := .next (decR8 .d s)

/-- `INC E` (1C): R129. -/
def execInc_E (s : State) : Out := .next (incR8 .e s)

/-- `DEC E` (1D): R130. -/
def execDec_E (s : State) : Out := .next (decR8 .e s)

/-- `INC H` (24): R129. -/
def execInc_H (s : State) : Out := .next (incR8 .h s)

/-- `DEC H` (25): R130. -/
def execDec_H (s : State) : Out := .next (decR8 .h s)

/-- `INC L` (2C): R129. -/
def execInc_L (s : State) : Out := .next (incR8 .l s)

/-- `DEC L` (2D): R130. -/
def execDec_L (s : State) : Out := .next (decR8 .l s)

/-- `INC (HL)` (34): R129. -/
def execInc_mHL (s : State) : Out := .next (incR8 .hlInd s)

/-- `DEC (HL)` (35): R130. -/
def execDec_mHL (s : State) : Out := .next (decR8 .hlInd s)

/-- `INC A` (3C): R129. -/
def execInc_A (s : State) : Out := .next (incR8 .a s)

/-- `DEC A` (3D): R130. -/
def execDec_A (s : State) : Out := .next (decR8 .a s)

/-- `ADD A,B` (80): R121. -/
def execAdd_A_B (s : State) : Out := .next (aluR8 .add .b s)

/-- `ADD A,C` (81): R121. -/
def execAdd_A_C (s : State) : Out := .next (aluR8 .add .c s)

/-- `ADD A,D` (82): R121. -/
def execAdd_A_D (s : State) : Out := .next (aluR8 .add .d s)

/-- `ADD A,E` (83): R121. -/
def execAdd_A_E (s : State) : Out := .next (aluR8 .add .e s)

/-- `ADD A,H` (84): R121. -/
def execAdd_A_H (s : State) : Out := .next (aluR8 .add .h s)

/-- `ADD A,L` (85): R121. -/
def execAdd_A_L (s : State) : Out := .next (aluR8 .add .l s)

/-- `ADD A,(HL)` (86): R121. -/
def execAdd_A_mHL (s : State) : Out := .next (aluR8 .add .hlInd s)

/-- `ADD A,A` (87): R121. -/
def execAdd_A_A (s : State) : Out := .next (aluR8 .add .a s)

/-- `ADC A,B` (88): R122. -/
def execAdc_A_B (s : State) : Out := .next (aluR8 .adc .b s)

/-- `ADC A,C` (89): R122. -/
def execAdc_A_C (s : State) : Out := .next (aluR8 .adc .c s)

/-- `ADC A,D` (8A): R122. -/
def execAdc_A_D (s : State) : Out := .next (aluR8 .adc .d s)

/-- `ADC A,E` (8B): R122. -/
def execAdc_A_E (s : State) : Out := .next (aluR8 .adc .e s)

/-- `ADC A,H` (8C): R122. -/
def execAdc_A_H (s : State) : Out := .next (aluR8 .adc .h s)

/-- `ADC A,L` (8D): R122. -/
def execAdc_A_L (s : State) : Out := .next (aluR8 .adc .l s)

/-- `ADC A,(HL)` (8E): R122. -/
def execAdc_A_mHL (s : State) : Out := .next (aluR8 .adc .hlInd s)

/-- `ADC A,A` (8F): R122. -/
def execAdc_A_A (s : State) : Out := .next (aluR8 .adc .a s)

/-- `SUB B` (90): R123. -/
def execSub_B (s : State) : Out := .next (aluR8 .sub .b s)

/-- `SUB C` (91): R123. -/
def execSub_C (s : State) : Out := .next (aluR8 .sub .c s)

/-- `SUB D` (92): R123. -/
def execSub_D (s : State) : Out := .next (aluR8 .sub .d s)

/-- `SUB E` (93): R123. -/
def execSub_E (s : State) : Out := .next (aluR8 .sub .e s)

/-- `SUB H` (94): R123. -/
def execSub_H (s : State) : Out := .next (aluR8 .sub .h s)

/-- `SUB L` (95): R123. -/
def execSub_L (s : State) : Out := .next (aluR8 .sub .l s)

/-- `SUB (HL)` (96): R123. -/
def execSub_mHL (s : State) : Out := .next (aluR8 .sub .hlInd s)

/-- `SUB A` (97): R123. -/
def execSub_A (s : State) : Out := .next (aluR8 .sub .a s)

/-- `SBC A,B` (98): R124. -/
def execSbc_A_B (s : State) : Out := .next (aluR8 .sbc .b s)

/-- `SBC A,C` (99): R124. -/
def execSbc_A_C (s : State) : Out := .next (aluR8 .sbc .c s)

/-- `SBC A,D` (9A): R124. -/
def execSbc_A_D (s : State) : Out := .next (aluR8 .sbc .d s)

/-- `SBC A,E` (9B): R124. -/
def execSbc_A_E (s : State) : Out := .next (aluR8 .sbc .e s)

/-- `SBC A,H` (9C): R124. -/
def execSbc_A_H (s : State) : Out := .next (aluR8 .sbc .h s)

/-- `SBC A,L` (9D): R124. -/
def execSbc_A_L (s : State) : Out := .next (aluR8 .sbc .l s)

/-- `SBC A,(HL)` (9E): R124. -/
def execSbc_A_mHL (s : State) : Out := .next (aluR8 .sbc .hlInd s)

/-- `SBC A,A` (9F): R124. -/
def execSbc_A_A (s : State) : Out := .next (aluR8 .sbc .a s)

/-- `AND B` (A0): R125. -/
def execAnd_B (s : State) : Out := .next (aluR8 .and .b s)

/-- `AND C` (A1): R125. -/
def execAnd_C (s : State) : Out := .next (aluR8 .and .c s)

/-- `AND D` (A2): R125. -/
def execAnd_D (s : State) : Out := .next (aluR8 .and .d s)

/-- `AND E` (A3): R125. -/
def execAnd_E (s : State) : Out := .next (aluR8 .and .e s)

/-- `AND H` (A4): R125. -/
def execAnd_H (s : State) : Out := .next (aluR8 .and .h s)

/-- `AND L` (A5): R125. -/
def execAnd_L (s : State) : Out := .next (aluR8 .and .l s)

/-- `AND (HL)` (A6): R125. -/
def execAnd_mHL (s : State) : Out := .next (aluR8 .and .hlInd s)

/-- `AND A` (A7): R125. -/
def execAnd_A (s : State) : Out := .next (aluR8 .and .a s)

/-- `XOR B` (A8): R126. -/
def execXor_B (s : State) : Out := .next (aluR8 .xor .b s)

/-- `XOR C` (A9): R126. -/
def execXor_C (s : State) : Out := .next (aluR8 .xor .c s)

/-- `XOR D` (AA): R126. -/
def execXor_D (s : State) : Out := .next (aluR8 .xor .d s)

/-- `XOR E` (AB): R126. -/
def execXor_E (s : State) : Out := .next (aluR8 .xor .e s)

/-- `XOR H` (AC): R126. -/
def execXor_H (s : State) : Out := .next (aluR8 .xor .h s)

/-- `XOR L` (AD): R126. -/
def execXor_L (s : State) : Out := .next (aluR8 .xor .l s)

/-- `XOR (HL)` (AE): R126. -/
def execXor_mHL (s : State) : Out := .next (aluR8 .xor .hlInd s)

/-- `XOR A` (AF): R126. -/
def execXor_A (s : State) : Out := .next (aluR8 .xor .a s)

/-- `OR B` (B0): R127. -/
def execOr_B (s : State) : Out := .next (aluR8 .or .b s)

/-- `OR C` (B1): R127. -/
def execOr_C (s : State) : Out := .next (aluR8 .or .c s)

/-- `OR D` (B2): R127. -/
def execOr_D (s : State) : Out := .next (aluR8 .or .d s)

/-- `OR E` (B3): R127. -/
def execOr_E (s : State) : Out := .next (aluR8 .or .e s)

/-- `OR H` (B4): R127. -/
def execOr_H (s : State) : Out := .next (aluR8 .or .h s)

/-- `OR L` (B5): R127. -/
def execOr_L (s : State) : Out := .next (aluR8 .or .l s)

/-- `OR (HL)` (B6): R127. -/
def execOr_mHL (s : State) : Out := .next (aluR8 .or .hlInd s)

/-- `OR A` (B7): R127. -/
def execOr_A (s : State) : Out := .next (aluR8 .or .a s)

/-- `CP B` (B8): R128. -/
def execCp_B (s : State) : Out := .next (aluR8 .cp .b s)

/-- `CP C` (B9): R128. -/
def execCp_C (s : State) : Out := .next (aluR8 .cp .c s)

/-- `CP D` (BA): R128. -/
def execCp_D (s : State) : Out := .next (aluR8 .cp .d s)

/-- `CP E` (BB): R128. -/
def execCp_E (s : State) : Out := .next (aluR8 .cp .e s)

/-- `CP H` (BC): R128. -/
def execCp_H (s : State) : Out := .next (aluR8 .cp .h s)

/-- `CP L` (BD): R128. -/
def execCp_L (s : State) : Out := .next (aluR8 .cp .l s)

/-- `CP (HL)` (BE): R128. -/
def execCp_mHL (s : State) : Out := .next (aluR8 .cp .hlInd s)

/-- `CP A` (BF): R128. -/
def execCp_A (s : State) : Out := .next (aluR8 .cp .a s)

end Sys2Proof.Machine
end

