-- ==== Sys2Proof/Machine/CbOps.lean ====
section
/-! DEFINITION. The four groups of prefixed operations (R250 of spec/47_cb_prefix.md), over their selectors. -/

namespace Sys2Proof.Machine

/-- A rotate, shift or SWAP (R251 to R258): one read, one write, then the flags. -/
def rotR8 (op : RotOp) (r : R8) (s : State) : State :=
  let x := rotResult op (s.readR8 r) s.flagC
  (s.writeR8 r x.1).setFlags (decide (x.1 = 0)) false false x.2

/-- BIT b,r (R259): Z is the complement of the bit, C unchanged, nothing written. -/
def bitR8 (k : Fin 8) (r : R8) (s : State) : State :=
  s.setFlags (!(s.readR8 r).getLsbD k.val) false true s.flagC

/-- RES b,r (R260): no flags. -/
def resR8 (k : Fin 8) (r : R8) (s : State) : State := s.writeR8 r (resBit k (s.readR8 r))

/-- SET b,r (R261): no flags. -/
def setR8 (k : Fin 8) (r : R8) (s : State) : State := s.writeR8 r (setBit k (s.readR8 r))

end Sys2Proof.Machine
end

