-- ==== Sys2Proof/Machine/CbBits.lean ====
section
/-! DEFINITION. BIT, RES and SET (R259 to R261 of spec/47_cb_prefix.md), one meaning a row. -/

namespace Sys2Proof.Machine

/-- `BIT 0,B` (CB 40): R259. -/
def execBit_0_B (s : State) : Out := .next (bitR8 0 .b s)

/-- `BIT 0,C` (CB 41): R259. -/
def execBit_0_C (s : State) : Out := .next (bitR8 0 .c s)

/-- `BIT 0,D` (CB 42): R259. -/
def execBit_0_D (s : State) : Out := .next (bitR8 0 .d s)

/-- `BIT 0,E` (CB 43): R259. -/
def execBit_0_E (s : State) : Out := .next (bitR8 0 .e s)

/-- `BIT 0,H` (CB 44): R259. -/
def execBit_0_H (s : State) : Out := .next (bitR8 0 .h s)

/-- `BIT 0,L` (CB 45): R259. -/
def execBit_0_L (s : State) : Out := .next (bitR8 0 .l s)

/-- `BIT 0,(HL)` (CB 46): R259. -/
def execBit_0_mHL (s : State) : Out := .next (bitR8 0 .hlInd s)

/-- `BIT 0,A` (CB 47): R259. -/
def execBit_0_A (s : State) : Out := .next (bitR8 0 .a s)

/-- `BIT 1,B` (CB 48): R259. -/
def execBit_1_B (s : State) : Out := .next (bitR8 1 .b s)

/-- `BIT 1,C` (CB 49): R259. -/
def execBit_1_C (s : State) : Out := .next (bitR8 1 .c s)

/-- `BIT 1,D` (CB 4A): R259. -/
def execBit_1_D (s : State) : Out := .next (bitR8 1 .d s)

/-- `BIT 1,E` (CB 4B): R259. -/
def execBit_1_E (s : State) : Out := .next (bitR8 1 .e s)

/-- `BIT 1,H` (CB 4C): R259. -/
def execBit_1_H (s : State) : Out := .next (bitR8 1 .h s)

/-- `BIT 1,L` (CB 4D): R259. -/
def execBit_1_L (s : State) : Out := .next (bitR8 1 .l s)

/-- `BIT 1,(HL)` (CB 4E): R259. -/
def execBit_1_mHL (s : State) : Out := .next (bitR8 1 .hlInd s)

/-- `BIT 1,A` (CB 4F): R259. -/
def execBit_1_A (s : State) : Out := .next (bitR8 1 .a s)

/-- `BIT 2,B` (CB 50): R259. -/
def execBit_2_B (s : State) : Out := .next (bitR8 2 .b s)

/-- `BIT 2,C` (CB 51): R259. -/
def execBit_2_C (s : State) : Out := .next (bitR8 2 .c s)

/-- `BIT 2,D` (CB 52): R259. -/
def execBit_2_D (s : State) : Out := .next (bitR8 2 .d s)

/-- `BIT 2,E` (CB 53): R259. -/
def execBit_2_E (s : State) : Out := .next (bitR8 2 .e s)

/-- `BIT 2,H` (CB 54): R259. -/
def execBit_2_H (s : State) : Out := .next (bitR8 2 .h s)

/-- `BIT 2,L` (CB 55): R259. -/
def execBit_2_L (s : State) : Out := .next (bitR8 2 .l s)

/-- `BIT 2,(HL)` (CB 56): R259. -/
def execBit_2_mHL (s : State) : Out := .next (bitR8 2 .hlInd s)

/-- `BIT 2,A` (CB 57): R259. -/
def execBit_2_A (s : State) : Out := .next (bitR8 2 .a s)

/-- `BIT 3,B` (CB 58): R259. -/
def execBit_3_B (s : State) : Out := .next (bitR8 3 .b s)

/-- `BIT 3,C` (CB 59): R259. -/
def execBit_3_C (s : State) : Out := .next (bitR8 3 .c s)

/-- `BIT 3,D` (CB 5A): R259. -/
def execBit_3_D (s : State) : Out := .next (bitR8 3 .d s)

/-- `BIT 3,E` (CB 5B): R259. -/
def execBit_3_E (s : State) : Out := .next (bitR8 3 .e s)

/-- `BIT 3,H` (CB 5C): R259. -/
def execBit_3_H (s : State) : Out := .next (bitR8 3 .h s)

/-- `BIT 3,L` (CB 5D): R259. -/
def execBit_3_L (s : State) : Out := .next (bitR8 3 .l s)

/-- `BIT 3,(HL)` (CB 5E): R259. -/
def execBit_3_mHL (s : State) : Out := .next (bitR8 3 .hlInd s)

/-- `BIT 3,A` (CB 5F): R259. -/
def execBit_3_A (s : State) : Out := .next (bitR8 3 .a s)

/-- `BIT 4,B` (CB 60): R259. -/
def execBit_4_B (s : State) : Out := .next (bitR8 4 .b s)

/-- `BIT 4,C` (CB 61): R259. -/
def execBit_4_C (s : State) : Out := .next (bitR8 4 .c s)

/-- `BIT 4,D` (CB 62): R259. -/
def execBit_4_D (s : State) : Out := .next (bitR8 4 .d s)

/-- `BIT 4,E` (CB 63): R259. -/
def execBit_4_E (s : State) : Out := .next (bitR8 4 .e s)

/-- `BIT 4,H` (CB 64): R259. -/
def execBit_4_H (s : State) : Out := .next (bitR8 4 .h s)

/-- `BIT 4,L` (CB 65): R259. -/
def execBit_4_L (s : State) : Out := .next (bitR8 4 .l s)

/-- `BIT 4,(HL)` (CB 66): R259. -/
def execBit_4_mHL (s : State) : Out := .next (bitR8 4 .hlInd s)

/-- `BIT 4,A` (CB 67): R259. -/
def execBit_4_A (s : State) : Out := .next (bitR8 4 .a s)

/-- `BIT 5,B` (CB 68): R259. -/
def execBit_5_B (s : State) : Out := .next (bitR8 5 .b s)

/-- `BIT 5,C` (CB 69): R259. -/
def execBit_5_C (s : State) : Out := .next (bitR8 5 .c s)

/-- `BIT 5,D` (CB 6A): R259. -/
def execBit_5_D (s : State) : Out := .next (bitR8 5 .d s)

/-- `BIT 5,E` (CB 6B): R259. -/
def execBit_5_E (s : State) : Out := .next (bitR8 5 .e s)

/-- `BIT 5,H` (CB 6C): R259. -/
def execBit_5_H (s : State) : Out := .next (bitR8 5 .h s)

/-- `BIT 5,L` (CB 6D): R259. -/
def execBit_5_L (s : State) : Out := .next (bitR8 5 .l s)

/-- `BIT 5,(HL)` (CB 6E): R259. -/
def execBit_5_mHL (s : State) : Out := .next (bitR8 5 .hlInd s)

/-- `BIT 5,A` (CB 6F): R259. -/
def execBit_5_A (s : State) : Out := .next (bitR8 5 .a s)

/-- `BIT 6,B` (CB 70): R259. -/
def execBit_6_B (s : State) : Out := .next (bitR8 6 .b s)

/-- `BIT 6,C` (CB 71): R259. -/
def execBit_6_C (s : State) : Out := .next (bitR8 6 .c s)

/-- `BIT 6,D` (CB 72): R259. -/
def execBit_6_D (s : State) : Out := .next (bitR8 6 .d s)

/-- `BIT 6,E` (CB 73): R259. -/
def execBit_6_E (s : State) : Out := .next (bitR8 6 .e s)

/-- `BIT 6,H` (CB 74): R259. -/
def execBit_6_H (s : State) : Out := .next (bitR8 6 .h s)

/-- `BIT 6,L` (CB 75): R259. -/
def execBit_6_L (s : State) : Out := .next (bitR8 6 .l s)

/-- `BIT 6,(HL)` (CB 76): R259. -/
def execBit_6_mHL (s : State) : Out := .next (bitR8 6 .hlInd s)

/-- `BIT 6,A` (CB 77): R259. -/
def execBit_6_A (s : State) : Out := .next (bitR8 6 .a s)

/-- `BIT 7,B` (CB 78): R259. -/
def execBit_7_B (s : State) : Out := .next (bitR8 7 .b s)

/-- `BIT 7,C` (CB 79): R259. -/
def execBit_7_C (s : State) : Out := .next (bitR8 7 .c s)

/-- `BIT 7,D` (CB 7A): R259. -/
def execBit_7_D (s : State) : Out := .next (bitR8 7 .d s)

/-- `BIT 7,E` (CB 7B): R259. -/
def execBit_7_E (s : State) : Out := .next (bitR8 7 .e s)

/-- `BIT 7,H` (CB 7C): R259. -/
def execBit_7_H (s : State) : Out := .next (bitR8 7 .h s)

/-- `BIT 7,L` (CB 7D): R259. -/
def execBit_7_L (s : State) : Out := .next (bitR8 7 .l s)

/-- `BIT 7,(HL)` (CB 7E): R259. -/
def execBit_7_mHL (s : State) : Out := .next (bitR8 7 .hlInd s)

/-- `BIT 7,A` (CB 7F): R259. -/
def execBit_7_A (s : State) : Out := .next (bitR8 7 .a s)

/-- `RES 0,B` (CB 80): R260. -/
def execRes_0_B (s : State) : Out := .next (resR8 0 .b s)

/-- `RES 0,C` (CB 81): R260. -/
def execRes_0_C (s : State) : Out := .next (resR8 0 .c s)

/-- `RES 0,D` (CB 82): R260. -/
def execRes_0_D (s : State) : Out := .next (resR8 0 .d s)

/-- `RES 0,E` (CB 83): R260. -/
def execRes_0_E (s : State) : Out := .next (resR8 0 .e s)

/-- `RES 0,H` (CB 84): R260. -/
def execRes_0_H (s : State) : Out := .next (resR8 0 .h s)

/-- `RES 0,L` (CB 85): R260. -/
def execRes_0_L (s : State) : Out := .next (resR8 0 .l s)

/-- `RES 0,(HL)` (CB 86): R260. -/
def execRes_0_mHL (s : State) : Out := .next (resR8 0 .hlInd s)

/-- `RES 0,A` (CB 87): R260. -/
def execRes_0_A (s : State) : Out := .next (resR8 0 .a s)

/-- `RES 1,B` (CB 88): R260. -/
def execRes_1_B (s : State) : Out := .next (resR8 1 .b s)

/-- `RES 1,C` (CB 89): R260. -/
def execRes_1_C (s : State) : Out := .next (resR8 1 .c s)

/-- `RES 1,D` (CB 8A): R260. -/
def execRes_1_D (s : State) : Out := .next (resR8 1 .d s)

/-- `RES 1,E` (CB 8B): R260. -/
def execRes_1_E (s : State) : Out := .next (resR8 1 .e s)

/-- `RES 1,H` (CB 8C): R260. -/
def execRes_1_H (s : State) : Out := .next (resR8 1 .h s)

/-- `RES 1,L` (CB 8D): R260. -/
def execRes_1_L (s : State) : Out := .next (resR8 1 .l s)

/-- `RES 1,(HL)` (CB 8E): R260. -/
def execRes_1_mHL (s : State) : Out := .next (resR8 1 .hlInd s)

/-- `RES 1,A` (CB 8F): R260. -/
def execRes_1_A (s : State) : Out := .next (resR8 1 .a s)

/-- `RES 2,B` (CB 90): R260. -/
def execRes_2_B (s : State) : Out := .next (resR8 2 .b s)

/-- `RES 2,C` (CB 91): R260. -/
def execRes_2_C (s : State) : Out := .next (resR8 2 .c s)

/-- `RES 2,D` (CB 92): R260. -/
def execRes_2_D (s : State) : Out := .next (resR8 2 .d s)

/-- `RES 2,E` (CB 93): R260. -/
def execRes_2_E (s : State) : Out := .next (resR8 2 .e s)

/-- `RES 2,H` (CB 94): R260. -/
def execRes_2_H (s : State) : Out := .next (resR8 2 .h s)

/-- `RES 2,L` (CB 95): R260. -/
def execRes_2_L (s : State) : Out := .next (resR8 2 .l s)

/-- `RES 2,(HL)` (CB 96): R260. -/
def execRes_2_mHL (s : State) : Out := .next (resR8 2 .hlInd s)

/-- `RES 2,A` (CB 97): R260. -/
def execRes_2_A (s : State) : Out := .next (resR8 2 .a s)

/-- `RES 3,B` (CB 98): R260. -/
def execRes_3_B (s : State) : Out := .next (resR8 3 .b s)

/-- `RES 3,C` (CB 99): R260. -/
def execRes_3_C (s : State) : Out := .next (resR8 3 .c s)

/-- `RES 3,D` (CB 9A): R260. -/
def execRes_3_D (s : State) : Out := .next (resR8 3 .d s)

/-- `RES 3,E` (CB 9B): R260. -/
def execRes_3_E (s : State) : Out := .next (resR8 3 .e s)

/-- `RES 3,H` (CB 9C): R260. -/
def execRes_3_H (s : State) : Out := .next (resR8 3 .h s)

/-- `RES 3,L` (CB 9D): R260. -/
def execRes_3_L (s : State) : Out := .next (resR8 3 .l s)

/-- `RES 3,(HL)` (CB 9E): R260. -/
def execRes_3_mHL (s : State) : Out := .next (resR8 3 .hlInd s)

/-- `RES 3,A` (CB 9F): R260. -/
def execRes_3_A (s : State) : Out := .next (resR8 3 .a s)

/-- `RES 4,B` (CB A0): R260. -/
def execRes_4_B (s : State) : Out := .next (resR8 4 .b s)

/-- `RES 4,C` (CB A1): R260. -/
def execRes_4_C (s : State) : Out := .next (resR8 4 .c s)

/-- `RES 4,D` (CB A2): R260. -/
def execRes_4_D (s : State) : Out := .next (resR8 4 .d s)

/-- `RES 4,E` (CB A3): R260. -/
def execRes_4_E (s : State) : Out := .next (resR8 4 .e s)

/-- `RES 4,H` (CB A4): R260. -/
def execRes_4_H (s : State) : Out := .next (resR8 4 .h s)

/-- `RES 4,L` (CB A5): R260. -/
def execRes_4_L (s : State) : Out := .next (resR8 4 .l s)

/-- `RES 4,(HL)` (CB A6): R260. -/
def execRes_4_mHL (s : State) : Out := .next (resR8 4 .hlInd s)

/-- `RES 4,A` (CB A7): R260. -/
def execRes_4_A (s : State) : Out := .next (resR8 4 .a s)

/-- `RES 5,B` (CB A8): R260. -/
def execRes_5_B (s : State) : Out := .next (resR8 5 .b s)

/-- `RES 5,C` (CB A9): R260. -/
def execRes_5_C (s : State) : Out := .next (resR8 5 .c s)

/-- `RES 5,D` (CB AA): R260. -/
def execRes_5_D (s : State) : Out := .next (resR8 5 .d s)

/-- `RES 5,E` (CB AB): R260. -/
def execRes_5_E (s : State) : Out := .next (resR8 5 .e s)

/-- `RES 5,H` (CB AC): R260. -/
def execRes_5_H (s : State) : Out := .next (resR8 5 .h s)

/-- `RES 5,L` (CB AD): R260. -/
def execRes_5_L (s : State) : Out := .next (resR8 5 .l s)

/-- `RES 5,(HL)` (CB AE): R260. -/
def execRes_5_mHL (s : State) : Out := .next (resR8 5 .hlInd s)

/-- `RES 5,A` (CB AF): R260. -/
def execRes_5_A (s : State) : Out := .next (resR8 5 .a s)

/-- `RES 6,B` (CB B0): R260. -/
def execRes_6_B (s : State) : Out := .next (resR8 6 .b s)

/-- `RES 6,C` (CB B1): R260. -/
def execRes_6_C (s : State) : Out := .next (resR8 6 .c s)

/-- `RES 6,D` (CB B2): R260. -/
def execRes_6_D (s : State) : Out := .next (resR8 6 .d s)

/-- `RES 6,E` (CB B3): R260. -/
def execRes_6_E (s : State) : Out := .next (resR8 6 .e s)

/-- `RES 6,H` (CB B4): R260. -/
def execRes_6_H (s : State) : Out := .next (resR8 6 .h s)

/-- `RES 6,L` (CB B5): R260. -/
def execRes_6_L (s : State) : Out := .next (resR8 6 .l s)

/-- `RES 6,(HL)` (CB B6): R260. -/
def execRes_6_mHL (s : State) : Out := .next (resR8 6 .hlInd s)

/-- `RES 6,A` (CB B7): R260. -/
def execRes_6_A (s : State) : Out := .next (resR8 6 .a s)

/-- `RES 7,B` (CB B8): R260. -/
def execRes_7_B (s : State) : Out := .next (resR8 7 .b s)

/-- `RES 7,C` (CB B9): R260. -/
def execRes_7_C (s : State) : Out := .next (resR8 7 .c s)

/-- `RES 7,D` (CB BA): R260. -/
def execRes_7_D (s : State) : Out := .next (resR8 7 .d s)

/-- `RES 7,E` (CB BB): R260. -/
def execRes_7_E (s : State) : Out := .next (resR8 7 .e s)

/-- `RES 7,H` (CB BC): R260. -/
def execRes_7_H (s : State) : Out := .next (resR8 7 .h s)

/-- `RES 7,L` (CB BD): R260. -/
def execRes_7_L (s : State) : Out := .next (resR8 7 .l s)

/-- `RES 7,(HL)` (CB BE): R260. -/
def execRes_7_mHL (s : State) : Out := .next (resR8 7 .hlInd s)

/-- `RES 7,A` (CB BF): R260. -/
def execRes_7_A (s : State) : Out := .next (resR8 7 .a s)

/-- `SET 0,B` (CB C0): R261. -/
def execSet_0_B (s : State) : Out := .next (setR8 0 .b s)

/-- `SET 0,C` (CB C1): R261. -/
def execSet_0_C (s : State) : Out := .next (setR8 0 .c s)

/-- `SET 0,D` (CB C2): R261. -/
def execSet_0_D (s : State) : Out := .next (setR8 0 .d s)

/-- `SET 0,E` (CB C3): R261. -/
def execSet_0_E (s : State) : Out := .next (setR8 0 .e s)

/-- `SET 0,H` (CB C4): R261. -/
def execSet_0_H (s : State) : Out := .next (setR8 0 .h s)

/-- `SET 0,L` (CB C5): R261. -/
def execSet_0_L (s : State) : Out := .next (setR8 0 .l s)

/-- `SET 0,(HL)` (CB C6): R261. -/
def execSet_0_mHL (s : State) : Out := .next (setR8 0 .hlInd s)

/-- `SET 0,A` (CB C7): R261. -/
def execSet_0_A (s : State) : Out := .next (setR8 0 .a s)

/-- `SET 1,B` (CB C8): R261. -/
def execSet_1_B (s : State) : Out := .next (setR8 1 .b s)

/-- `SET 1,C` (CB C9): R261. -/
def execSet_1_C (s : State) : Out := .next (setR8 1 .c s)

/-- `SET 1,D` (CB CA): R261. -/
def execSet_1_D (s : State) : Out := .next (setR8 1 .d s)

/-- `SET 1,E` (CB CB): R261. -/
def execSet_1_E (s : State) : Out := .next (setR8 1 .e s)

/-- `SET 1,H` (CB CC): R261. -/
def execSet_1_H (s : State) : Out := .next (setR8 1 .h s)

/-- `SET 1,L` (CB CD): R261. -/
def execSet_1_L (s : State) : Out := .next (setR8 1 .l s)

/-- `SET 1,(HL)` (CB CE): R261. -/
def execSet_1_mHL (s : State) : Out := .next (setR8 1 .hlInd s)

/-- `SET 1,A` (CB CF): R261. -/
def execSet_1_A (s : State) : Out := .next (setR8 1 .a s)

/-- `SET 2,B` (CB D0): R261. -/
def execSet_2_B (s : State) : Out := .next (setR8 2 .b s)

/-- `SET 2,C` (CB D1): R261. -/
def execSet_2_C (s : State) : Out := .next (setR8 2 .c s)

/-- `SET 2,D` (CB D2): R261. -/
def execSet_2_D (s : State) : Out := .next (setR8 2 .d s)

/-- `SET 2,E` (CB D3): R261. -/
def execSet_2_E (s : State) : Out := .next (setR8 2 .e s)

/-- `SET 2,H` (CB D4): R261. -/
def execSet_2_H (s : State) : Out := .next (setR8 2 .h s)

/-- `SET 2,L` (CB D5): R261. -/
def execSet_2_L (s : State) : Out := .next (setR8 2 .l s)

/-- `SET 2,(HL)` (CB D6): R261. -/
def execSet_2_mHL (s : State) : Out := .next (setR8 2 .hlInd s)

/-- `SET 2,A` (CB D7): R261. -/
def execSet_2_A (s : State) : Out := .next (setR8 2 .a s)

/-- `SET 3,B` (CB D8): R261. -/
def execSet_3_B (s : State) : Out := .next (setR8 3 .b s)

/-- `SET 3,C` (CB D9): R261. -/
def execSet_3_C (s : State) : Out := .next (setR8 3 .c s)

/-- `SET 3,D` (CB DA): R261. -/
def execSet_3_D (s : State) : Out := .next (setR8 3 .d s)

/-- `SET 3,E` (CB DB): R261. -/
def execSet_3_E (s : State) : Out := .next (setR8 3 .e s)

/-- `SET 3,H` (CB DC): R261. -/
def execSet_3_H (s : State) : Out := .next (setR8 3 .h s)

/-- `SET 3,L` (CB DD): R261. -/
def execSet_3_L (s : State) : Out := .next (setR8 3 .l s)

/-- `SET 3,(HL)` (CB DE): R261. -/
def execSet_3_mHL (s : State) : Out := .next (setR8 3 .hlInd s)

/-- `SET 3,A` (CB DF): R261. -/
def execSet_3_A (s : State) : Out := .next (setR8 3 .a s)

/-- `SET 4,B` (CB E0): R261. -/
def execSet_4_B (s : State) : Out := .next (setR8 4 .b s)

/-- `SET 4,C` (CB E1): R261. -/
def execSet_4_C (s : State) : Out := .next (setR8 4 .c s)

/-- `SET 4,D` (CB E2): R261. -/
def execSet_4_D (s : State) : Out := .next (setR8 4 .d s)

/-- `SET 4,E` (CB E3): R261. -/
def execSet_4_E (s : State) : Out := .next (setR8 4 .e s)

/-- `SET 4,H` (CB E4): R261. -/
def execSet_4_H (s : State) : Out := .next (setR8 4 .h s)

/-- `SET 4,L` (CB E5): R261. -/
def execSet_4_L (s : State) : Out := .next (setR8 4 .l s)

/-- `SET 4,(HL)` (CB E6): R261. -/
def execSet_4_mHL (s : State) : Out := .next (setR8 4 .hlInd s)

/-- `SET 4,A` (CB E7): R261. -/
def execSet_4_A (s : State) : Out := .next (setR8 4 .a s)

/-- `SET 5,B` (CB E8): R261. -/
def execSet_5_B (s : State) : Out := .next (setR8 5 .b s)

/-- `SET 5,C` (CB E9): R261. -/
def execSet_5_C (s : State) : Out := .next (setR8 5 .c s)

/-- `SET 5,D` (CB EA): R261. -/
def execSet_5_D (s : State) : Out := .next (setR8 5 .d s)

/-- `SET 5,E` (CB EB): R261. -/
def execSet_5_E (s : State) : Out := .next (setR8 5 .e s)

/-- `SET 5,H` (CB EC): R261. -/
def execSet_5_H (s : State) : Out := .next (setR8 5 .h s)

/-- `SET 5,L` (CB ED): R261. -/
def execSet_5_L (s : State) : Out := .next (setR8 5 .l s)

/-- `SET 5,(HL)` (CB EE): R261. -/
def execSet_5_mHL (s : State) : Out := .next (setR8 5 .hlInd s)

/-- `SET 5,A` (CB EF): R261. -/
def execSet_5_A (s : State) : Out := .next (setR8 5 .a s)

/-- `SET 6,B` (CB F0): R261. -/
def execSet_6_B (s : State) : Out := .next (setR8 6 .b s)

/-- `SET 6,C` (CB F1): R261. -/
def execSet_6_C (s : State) : Out := .next (setR8 6 .c s)

/-- `SET 6,D` (CB F2): R261. -/
def execSet_6_D (s : State) : Out := .next (setR8 6 .d s)

/-- `SET 6,E` (CB F3): R261. -/
def execSet_6_E (s : State) : Out := .next (setR8 6 .e s)

/-- `SET 6,H` (CB F4): R261. -/
def execSet_6_H (s : State) : Out := .next (setR8 6 .h s)

/-- `SET 6,L` (CB F5): R261. -/
def execSet_6_L (s : State) : Out := .next (setR8 6 .l s)

/-- `SET 6,(HL)` (CB F6): R261. -/
def execSet_6_mHL (s : State) : Out := .next (setR8 6 .hlInd s)

/-- `SET 6,A` (CB F7): R261. -/
def execSet_6_A (s : State) : Out := .next (setR8 6 .a s)

/-- `SET 7,B` (CB F8): R261. -/
def execSet_7_B (s : State) : Out := .next (setR8 7 .b s)

/-- `SET 7,C` (CB F9): R261. -/
def execSet_7_C (s : State) : Out := .next (setR8 7 .c s)

/-- `SET 7,D` (CB FA): R261. -/
def execSet_7_D (s : State) : Out := .next (setR8 7 .d s)

/-- `SET 7,E` (CB FB): R261. -/
def execSet_7_E (s : State) : Out := .next (setR8 7 .e s)

/-- `SET 7,H` (CB FC): R261. -/
def execSet_7_H (s : State) : Out := .next (setR8 7 .h s)

/-- `SET 7,L` (CB FD): R261. -/
def execSet_7_L (s : State) : Out := .next (setR8 7 .l s)

/-- `SET 7,(HL)` (CB FE): R261. -/
def execSet_7_mHL (s : State) : Out := .next (setR8 7 .hlInd s)

/-- `SET 7,A` (CB FF): R261. -/
def execSet_7_A (s : State) : Out := .next (setR8 7 .a s)

end Sys2Proof.Machine
end

