-- ==== Sys2Proof/Machine/CbRotates.lean ====
section
/-! DEFINITION. The prefixed rotates, shifts and SWAP (R251 to R258 of spec/47_cb_prefix.md), one meaning a row. -/

namespace Sys2Proof.Machine

/-- `RLC B` (CB 00): R251. -/
def execRlc_B (s : State) : Out := .next (rotR8 .rlc .b s)

/-- `RLC C` (CB 01): R251. -/
def execRlc_C (s : State) : Out := .next (rotR8 .rlc .c s)

/-- `RLC D` (CB 02): R251. -/
def execRlc_D (s : State) : Out := .next (rotR8 .rlc .d s)

/-- `RLC E` (CB 03): R251. -/
def execRlc_E (s : State) : Out := .next (rotR8 .rlc .e s)

/-- `RLC H` (CB 04): R251. -/
def execRlc_H (s : State) : Out := .next (rotR8 .rlc .h s)

/-- `RLC L` (CB 05): R251. -/
def execRlc_L (s : State) : Out := .next (rotR8 .rlc .l s)

/-- `RLC (HL)` (CB 06): R251. -/
def execRlc_mHL (s : State) : Out := .next (rotR8 .rlc .hlInd s)

/-- `RLC A` (CB 07): R251. -/
def execRlc_A (s : State) : Out := .next (rotR8 .rlc .a s)

/-- `RRC B` (CB 08): R252. -/
def execRrc_B (s : State) : Out := .next (rotR8 .rrc .b s)

/-- `RRC C` (CB 09): R252. -/
def execRrc_C (s : State) : Out := .next (rotR8 .rrc .c s)

/-- `RRC D` (CB 0A): R252. -/
def execRrc_D (s : State) : Out := .next (rotR8 .rrc .d s)

/-- `RRC E` (CB 0B): R252. -/
def execRrc_E (s : State) : Out := .next (rotR8 .rrc .e s)

/-- `RRC H` (CB 0C): R252. -/
def execRrc_H (s : State) : Out := .next (rotR8 .rrc .h s)

/-- `RRC L` (CB 0D): R252. -/
def execRrc_L (s : State) : Out := .next (rotR8 .rrc .l s)

/-- `RRC (HL)` (CB 0E): R252. -/
def execRrc_mHL (s : State) : Out := .next (rotR8 .rrc .hlInd s)

/-- `RRC A` (CB 0F): R252. -/
def execRrc_A (s : State) : Out := .next (rotR8 .rrc .a s)

/-- `RL B` (CB 10): R253. -/
def execRl_B (s : State) : Out := .next (rotR8 .rl .b s)

/-- `RL C` (CB 11): R253. -/
def execRl_C (s : State) : Out := .next (rotR8 .rl .c s)

/-- `RL D` (CB 12): R253. -/
def execRl_D (s : State) : Out := .next (rotR8 .rl .d s)

/-- `RL E` (CB 13): R253. -/
def execRl_E (s : State) : Out := .next (rotR8 .rl .e s)

/-- `RL H` (CB 14): R253. -/
def execRl_H (s : State) : Out := .next (rotR8 .rl .h s)

/-- `RL L` (CB 15): R253. -/
def execRl_L (s : State) : Out := .next (rotR8 .rl .l s)

/-- `RL (HL)` (CB 16): R253. -/
def execRl_mHL (s : State) : Out := .next (rotR8 .rl .hlInd s)

/-- `RL A` (CB 17): R253. -/
def execRl_A (s : State) : Out := .next (rotR8 .rl .a s)

/-- `RR B` (CB 18): R254. -/
def execRr_B (s : State) : Out := .next (rotR8 .rr .b s)

/-- `RR C` (CB 19): R254. -/
def execRr_C (s : State) : Out := .next (rotR8 .rr .c s)

/-- `RR D` (CB 1A): R254. -/
def execRr_D (s : State) : Out := .next (rotR8 .rr .d s)

/-- `RR E` (CB 1B): R254. -/
def execRr_E (s : State) : Out := .next (rotR8 .rr .e s)

/-- `RR H` (CB 1C): R254. -/
def execRr_H (s : State) : Out := .next (rotR8 .rr .h s)

/-- `RR L` (CB 1D): R254. -/
def execRr_L (s : State) : Out := .next (rotR8 .rr .l s)

/-- `RR (HL)` (CB 1E): R254. -/
def execRr_mHL (s : State) : Out := .next (rotR8 .rr .hlInd s)

/-- `RR A` (CB 1F): R254. -/
def execRr_A (s : State) : Out := .next (rotR8 .rr .a s)

/-- `SLA B` (CB 20): R255. -/
def execSla_B (s : State) : Out := .next (rotR8 .sla .b s)

/-- `SLA C` (CB 21): R255. -/
def execSla_C (s : State) : Out := .next (rotR8 .sla .c s)

/-- `SLA D` (CB 22): R255. -/
def execSla_D (s : State) : Out := .next (rotR8 .sla .d s)

/-- `SLA E` (CB 23): R255. -/
def execSla_E (s : State) : Out := .next (rotR8 .sla .e s)

/-- `SLA H` (CB 24): R255. -/
def execSla_H (s : State) : Out := .next (rotR8 .sla .h s)

/-- `SLA L` (CB 25): R255. -/
def execSla_L (s : State) : Out := .next (rotR8 .sla .l s)

/-- `SLA (HL)` (CB 26): R255. -/
def execSla_mHL (s : State) : Out := .next (rotR8 .sla .hlInd s)

/-- `SLA A` (CB 27): R255. -/
def execSla_A (s : State) : Out := .next (rotR8 .sla .a s)

/-- `SRA B` (CB 28): R256. -/
def execSra_B (s : State) : Out := .next (rotR8 .sra .b s)

/-- `SRA C` (CB 29): R256. -/
def execSra_C (s : State) : Out := .next (rotR8 .sra .c s)

/-- `SRA D` (CB 2A): R256. -/
def execSra_D (s : State) : Out := .next (rotR8 .sra .d s)

/-- `SRA E` (CB 2B): R256. -/
def execSra_E (s : State) : Out := .next (rotR8 .sra .e s)

/-- `SRA H` (CB 2C): R256. -/
def execSra_H (s : State) : Out := .next (rotR8 .sra .h s)

/-- `SRA L` (CB 2D): R256. -/
def execSra_L (s : State) : Out := .next (rotR8 .sra .l s)

/-- `SRA (HL)` (CB 2E): R256. -/
def execSra_mHL (s : State) : Out := .next (rotR8 .sra .hlInd s)

/-- `SRA A` (CB 2F): R256. -/
def execSra_A (s : State) : Out := .next (rotR8 .sra .a s)

/-- `SWAP B` (CB 30): R257. -/
def execSwap_B (s : State) : Out := .next (rotR8 .swap .b s)

/-- `SWAP C` (CB 31): R257. -/
def execSwap_C (s : State) : Out := .next (rotR8 .swap .c s)

/-- `SWAP D` (CB 32): R257. -/
def execSwap_D (s : State) : Out := .next (rotR8 .swap .d s)

/-- `SWAP E` (CB 33): R257. -/
def execSwap_E (s : State) : Out := .next (rotR8 .swap .e s)

/-- `SWAP H` (CB 34): R257. -/
def execSwap_H (s : State) : Out := .next (rotR8 .swap .h s)

/-- `SWAP L` (CB 35): R257. -/
def execSwap_L (s : State) : Out := .next (rotR8 .swap .l s)

/-- `SWAP (HL)` (CB 36): R257. -/
def execSwap_mHL (s : State) : Out := .next (rotR8 .swap .hlInd s)

/-- `SWAP A` (CB 37): R257. -/
def execSwap_A (s : State) : Out := .next (rotR8 .swap .a s)

/-- `SRL B` (CB 38): R258. -/
def execSrl_B (s : State) : Out := .next (rotR8 .srl .b s)

/-- `SRL C` (CB 39): R258. -/
def execSrl_C (s : State) : Out := .next (rotR8 .srl .c s)

/-- `SRL D` (CB 3A): R258. -/
def execSrl_D (s : State) : Out := .next (rotR8 .srl .d s)

/-- `SRL E` (CB 3B): R258. -/
def execSrl_E (s : State) : Out := .next (rotR8 .srl .e s)

/-- `SRL H` (CB 3C): R258. -/
def execSrl_H (s : State) : Out := .next (rotR8 .srl .h s)

/-- `SRL L` (CB 3D): R258. -/
def execSrl_L (s : State) : Out := .next (rotR8 .srl .l s)

/-- `SRL (HL)` (CB 3E): R258. -/
def execSrl_mHL (s : State) : Out := .next (rotR8 .srl .hlInd s)

/-- `SRL A` (CB 3F): R258. -/
def execSrl_A (s : State) : Out := .next (rotR8 .srl .a s)

end Sys2Proof.Machine
end

