-- ==== Sys2Proof/Machine/Control.lean ====
section
/-! DEFINITION. Control transfer (spec/43_control.md). At the start of a meaning PC is the address of the byte after the whole
instruction (R27). The conditional forms record `taken`. -/

namespace Sys2Proof.Machine

/-- JP a16 (R180). -/
def jpA16 (a : Word) (s : State) : State := s.jump a

/-- JP cc,a16 (R181). -/
def jpCcA16 (cc : Cond) (a : Word) (s : State) : State :=
  if s.cond cc then { s.jump a with taken := true } else { s with taken := false }

/-- JP HL (R182): no memory is read. -/
def jpHl (s : State) : State := s.jump s.hl

/-- JR e8 (R183): from the byte after the instruction. -/
def jrE8 (e : Byte) (s : State) : State := s.jump (s.pc + sext16 e)

/-- JR cc,e8 (R184). -/
def jrCcE8 (cc : Cond) (e : Byte) (s : State) : State :=
  if s.cond cc then { jrE8 e s with taken := true } else { s with taken := false }

/-- CALL a16 (R185). -/
def callA16 (a : Word) (s : State) : State := (s.push16 s.pc).jump a

/-- CALL cc,a16 (R186). -/
def callCcA16 (cc : Cond) (a : Word) (s : State) : State :=
  if s.cond cc then { callA16 a s with taken := true } else { s with taken := false }

/-- RET (R187). -/
def retOp (s : State) : State := s.pop16.2.jump s.pop16.1

/-- RET cc (R188). -/
def retCc (cc : Cond) (s : State) : State :=
  if s.cond cc then { retOp s with taken := true } else { s with taken := false }

/-- RST t (R191): the target is `t * 8`. -/
def rstOp (t : Fin 8) (s : State) : State := (s.push16 s.pc).jump (BitVec.ofNat 16 (8 * t.val))

/-- `JR e8` (18): R183. -/
def execJr_e8 (e : Byte) (s : State) : Out := .next (jrE8 e s)

/-- `JR NZ,e8` (20): R184. -/
def execJr_NZ_e8 (e : Byte) (s : State) : Out := .next (jrCcE8 .nz e s)

/-- `JR Z,e8` (28): R184. -/
def execJr_Z_e8 (e : Byte) (s : State) : Out := .next (jrCcE8 .z e s)

/-- `JR NC,e8` (30): R184. -/
def execJr_NC_e8 (e : Byte) (s : State) : Out := .next (jrCcE8 .nc e s)

/-- `JR C,e8` (38): R184. -/
def execJr_C_e8 (e : Byte) (s : State) : Out := .next (jrCcE8 .c e s)

/-- `JP NZ,a16` (C2): R181. -/
def execJp_NZ_a16 (a : Word) (s : State) : Out := .next (jpCcA16 .nz a s)

/-- `JP a16` (C3): R180. -/
def execJp_a16 (a : Word) (s : State) : Out := .next (jpA16 a s)

/-- `CALL NZ,a16` (C4): R186. -/
def execCall_NZ_a16 (a : Word) (s : State) : Out := .next (callCcA16 .nz a s)

/-- `JP Z,a16` (CA): R181. -/
def execJp_Z_a16 (a : Word) (s : State) : Out := .next (jpCcA16 .z a s)

/-- `CALL Z,a16` (CC): R186. -/
def execCall_Z_a16 (a : Word) (s : State) : Out := .next (callCcA16 .z a s)

/-- `CALL a16` (CD): R185. -/
def execCall_a16 (a : Word) (s : State) : Out := .next (callA16 a s)

/-- `JP NC,a16` (D2): R181. -/
def execJp_NC_a16 (a : Word) (s : State) : Out := .next (jpCcA16 .nc a s)

/-- `CALL NC,a16` (D4): R186. -/
def execCall_NC_a16 (a : Word) (s : State) : Out := .next (callCcA16 .nc a s)

/-- `JP C,a16` (DA): R181. -/
def execJp_C_a16 (a : Word) (s : State) : Out := .next (jpCcA16 .c a s)

/-- `CALL C,a16` (DC): R186. -/
def execCall_C_a16 (a : Word) (s : State) : Out := .next (callCcA16 .c a s)

/-- `RET NZ` (C0): R188. -/
def execRet_NZ (s : State) : Out := .next (retCc .nz s)

/-- `RST 0x00` (C7): R191. -/
def execRst_0x00 (s : State) : Out := .next (rstOp 0 s)

/-- `RET Z` (C8): R188. -/
def execRet_Z (s : State) : Out := .next (retCc .z s)

/-- `RET` (C9): R187. -/
def execRet (s : State) : Out := .next (retOp s)

/-- `RST 0x08` (CF): R191. -/
def execRst_0x08 (s : State) : Out := .next (rstOp 1 s)

/-- `RET NC` (D0): R188. -/
def execRet_NC (s : State) : Out := .next (retCc .nc s)

/-- `RST 0x10` (D7): R191. -/
def execRst_0x10 (s : State) : Out := .next (rstOp 2 s)

/-- `RET C` (D8): R188. -/
def execRet_C (s : State) : Out := .next (retCc .c s)

/-- `RETI` (D9): R190. -/
def execReti (s : State) : Out := .next (s.returnFromInterrupt)

/-- `RST 0x18` (DF): R191. -/
def execRst_0x18 (s : State) : Out := .next (rstOp 3 s)

/-- `RST 0x20` (E7): R191. -/
def execRst_0x20 (s : State) : Out := .next (rstOp 4 s)

/-- `JP HL` (E9): R182. -/
def execJp_HL (s : State) : Out := .next (jpHl s)

/-- `RST 0x28` (EF): R191. -/
def execRst_0x28 (s : State) : Out := .next (rstOp 5 s)

/-- `RST 0x30` (F7): R191. -/
def execRst_0x30 (s : State) : Out := .next (rstOp 6 s)

/-- `RST 0x38` (FF): R191. -/
def execRst_0x38 (s : State) : Out := .next (rstOp 7 s)

end Sys2Proof.Machine
end

