-- ==== Sys2Proof/Machine/CpuControl.lean ====
section
/-! DEFINITION. HALT, STOP, NOP, DI, EI (spec/45_cpu_control.md). The end-of-instruction rule R215 is `State.endInstr`. -/

namespace Sys2Proof.Machine

/-- HALT (R210): the HALT bug is armed, or the core is suspended. -/
def haltOp (s : State) : State :=
  if s.params.haltBugMode = .reproduce ∧ s.ime = false ∧ s.pend ≠ 0 then { s with haltBug := true }
  else { s with halted := true }

/-- STOP (R211). -/
def stopOp (s : State) : State := { s with stopped := true }

/-- DI (R213). -/
def diOp (s : State) : State := { s with ime := false, eiPending := false }

/-- EI (R214). -/
def eiOp (s : State) : State :=
  if s.params.eiDelay then { s with eiPending := true } else { s with ime := true }

/-- `STOP` (10): R211. -/
def execStop (_ignored : Byte) (s : State) : Out := .next (stopOp s)

/-- `NOP` (00): R212. -/
def execNop (s : State) : Out := .next s

/-- `HALT` (76): R210. -/
def execHalt (s : State) : Out := .next (haltOp s)

/-- `DI` (F3): R213. -/
def execDi (s : State) : Out := .next (diOp s)

/-- `EI` (FB): R214. -/
def execEi (s : State) : Out := .next (eiOp s)

end Sys2Proof.Machine
end

