-- ==== Sys2Proof/Machine/Escape.lean ====
section
/-! DEFINITION. The two table rows that are no instruction of a program: the unresolved escape (R92) and the unmapped bytes
(R99, R310). -/

namespace Sys2Proof.Machine

/-- A prefixed code by the fields of its byte (R96, R250). -/
def cbByFields (op2 : Byte) (s : State) : State :=
  match decodeFields op2 true with
  | .instr (.rot op r) => rotR8 op r s
  | .instr (.bit k r) => bitR8 k r s
  | .instr (.res k r) => resR8 k r s
  | .instr (.set k r) => setR8 k r s
  | _ => s

/-- The escape with its second byte (R92): the prefixed code is executed by its fields. -/
def execPrefixCb (op2 : Byte) (s : State) : Out := .next (cbByFields op2 s)

/-- An unmapped byte (R99): the decode failure of R310. `s` is the state at the start of the step. -/
def execUnmapped (op : Byte) (s : State) : Out := .next (s.decodeFail op)

end Sys2Proof.Machine
end

