-- ==== Sys2Proof/Machine/Loads.lean ====
section
/-! DEFINITION. Loads and stores (spec/42_loads.md). -/

namespace Sys2Proof.Machine

/-- LD r8,r8', LD r8,(HL) and LD (HL),r8 (R150, R151, R152). -/
def ldR8R8 (dst src : R8) (s : State) : State := s.writeR8 dst (s.readR8 src)

/-- LD r8,n8 and LD (HL),n8 (R153, R154). -/
def ldR8N8 (dst : R8) (n : Byte) (s : State) : State := s.writeR8 dst n

/-- LD (r16mem),A (R155, R156, R157): the store, then the step of HL. -/
def ldR16memA (m : R16Mem) (s : State) : State := (s.busWrite (s.memAddr m) (s.reg .a)).postStep m

/-- LD A,(r16mem) (R158, R159, R160): the read, then the step of HL. -/
def ldAR16mem (m : R16Mem) (s : State) : State := (s.setReg .a (s.busRead (s.memAddr m))).postStep m

/-- A store of A at an address (R161, R163, R165). -/
def storeA (a : Word) (s : State) : State := s.busWrite a (s.reg .a)

/-- A load of A from an address (R162, R164, R166). -/
def loadA (a : Word) (s : State) : State := s.setReg .a (s.busRead a)

/-- LD r16,n16 (R167). -/
def ldR16N16 (r : R16) (n : Word) (s : State) : State := s.writeR16 r n

/-- LD (a16),SP (R168, R54): the low byte first. -/
def ldA16Sp (a : Word) (s : State) : State :=
  (s.busWrite a (loByte s.sp)).busWrite (a + 1) (hiByte s.sp)

/-- LD SP,HL (R169). -/
def ldSpHl (s : State) : State := s.setSp s.hl

/-- LD HL,SP+e8 (R170): the flags as for ADD SP,e8. -/
def ldHlSpE8 (e : Byte) (s : State) : State :=
  let x := addSpResult s.sp e
  (s.setPair .hl x.value).setFlags false false x.h x.c

/-- `LD BC,n16` (01): R167. -/
def execLd_BC_n16 (n : Word) (s : State) : Out := .next (ldR16N16 .bc n s)

/-- `LD B,n8` (06): R153. -/
def execLd_B_n8 (n : Byte) (s : State) : Out := .next (ldR8N8 .b n s)

/-- `LD (a16),SP` (08): R168. -/
def execLd_ma16_SP (a : Word) (s : State) : Out := .next (ldA16Sp a s)

/-- `LD C,n8` (0E): R153. -/
def execLd_C_n8 (n : Byte) (s : State) : Out := .next (ldR8N8 .c n s)

/-- `LD DE,n16` (11): R167. -/
def execLd_DE_n16 (n : Word) (s : State) : Out := .next (ldR16N16 .de n s)

/-- `LD D,n8` (16): R153. -/
def execLd_D_n8 (n : Byte) (s : State) : Out := .next (ldR8N8 .d n s)

/-- `LD E,n8` (1E): R153. -/
def execLd_E_n8 (n : Byte) (s : State) : Out := .next (ldR8N8 .e n s)

/-- `LD HL,n16` (21): R167. -/
def execLd_HL_n16 (n : Word) (s : State) : Out := .next (ldR16N16 .hl n s)

/-- `LD H,n8` (26): R153. -/
def execLd_H_n8 (n : Byte) (s : State) : Out := .next (ldR8N8 .h n s)

/-- `LD L,n8` (2E): R153. -/
def execLd_L_n8 (n : Byte) (s : State) : Out := .next (ldR8N8 .l n s)

/-- `LD SP,n16` (31): R167. -/
def execLd_SP_n16 (n : Word) (s : State) : Out := .next (ldR16N16 .sp n s)

/-- `LD (HL),n8` (36): R154. -/
def execLd_mHL_n8 (n : Byte) (s : State) : Out := .next (ldR8N8 .hlInd n s)

/-- `LD A,n8` (3E): R153. -/
def execLd_A_n8 (n : Byte) (s : State) : Out := .next (ldR8N8 .a n s)

/-- `LDH (a8),A` (E0): R163. -/
def execLdh_ma8_A (n : Byte) (s : State) : Out := .next (storeA (highPage n) s)

/-- `LD (a16),A` (EA): R161. -/
def execLd_ma16_A (a : Word) (s : State) : Out := .next (storeA a s)

/-- `LDH A,(a8)` (F0): R164. -/
def execLdh_A_ma8 (n : Byte) (s : State) : Out := .next (loadA (highPage n) s)

/-- `LD HL,SP+e8` (F8): R170. -/
def execLd_HL_SPe8 (e : Byte) (s : State) : Out := .next (ldHlSpE8 e s)

/-- `LD A,(a16)` (FA): R162. -/
def execLd_A_ma16 (a : Word) (s : State) : Out := .next (loadA a s)

/-- `LD (BC),A` (02): R155. -/
def execLd_mBC_A (s : State) : Out := .next (ldR16memA .bc s)

/-- `LD A,(BC)` (0A): R158. -/
def execLd_A_mBC (s : State) : Out := .next (ldAR16mem .bc s)

/-- `LD (DE),A` (12): R155. -/
def execLd_mDE_A (s : State) : Out := .next (ldR16memA .de s)

/-- `LD A,(DE)` (1A): R158. -/
def execLd_A_mDE (s : State) : Out := .next (ldAR16mem .de s)

/-- `LD (HL+),A` (22): R156. -/
def execLd_mHLinc_A (s : State) : Out := .next (ldR16memA .hlInc s)

/-- `LD A,(HL+)` (2A): R159. -/
def execLd_A_mHLinc (s : State) : Out := .next (ldAR16mem .hlInc s)

/-- `LD (HL-),A` (32): R157. -/
def execLd_mHLdec_A (s : State) : Out := .next (ldR16memA .hlDec s)

/-- `LD A,(HL-)` (3A): R160. -/
def execLd_A_mHLdec (s : State) : Out := .next (ldAR16mem .hlDec s)

/-- `LD B,B` (40): R150. -/
def execLd_B_B (s : State) : Out := .next (ldR8R8 .b .b s)

/-- `LD B,C` (41): R150. -/
def execLd_B_C (s : State) : Out := .next (ldR8R8 .b .c s)

/-- `LD B,D` (42): R150. -/
def execLd_B_D (s : State) : Out := .next (ldR8R8 .b .d s)

/-- `LD B,E` (43): R150. -/
def execLd_B_E (s : State) : Out := .next (ldR8R8 .b .e s)

/-- `LD B,H` (44): R150. -/
def execLd_B_H (s : State) : Out := .next (ldR8R8 .b .h s)

/-- `LD B,L` (45): R150. -/
def execLd_B_L (s : State) : Out := .next (ldR8R8 .b .l s)

/-- `LD B,(HL)` (46): R151. -/
def execLd_B_mHL (s : State) : Out := .next (ldR8R8 .b .hlInd s)

/-- `LD B,A` (47): R150. -/
def execLd_B_A (s : State) : Out := .next (ldR8R8 .b .a s)

/-- `LD C,B` (48): R150. -/
def execLd_C_B (s : State) : Out := .next (ldR8R8 .c .b s)

/-- `LD C,C` (49): R150. -/
def execLd_C_C (s : State) : Out := .next (ldR8R8 .c .c s)

/-- `LD C,D` (4A): R150. -/
def execLd_C_D (s : State) : Out := .next (ldR8R8 .c .d s)

/-- `LD C,E` (4B): R150. -/
def execLd_C_E (s : State) : Out := .next (ldR8R8 .c .e s)

/-- `LD C,H` (4C): R150. -/
def execLd_C_H (s : State) : Out := .next (ldR8R8 .c .h s)

/-- `LD C,L` (4D): R150. -/
def execLd_C_L (s : State) : Out := .next (ldR8R8 .c .l s)

/-- `LD C,(HL)` (4E): R151. -/
def execLd_C_mHL (s : State) : Out := .next (ldR8R8 .c .hlInd s)

/-- `LD C,A` (4F): R150. -/
def execLd_C_A (s : State) : Out := .next (ldR8R8 .c .a s)

/-- `LD D,B` (50): R150. -/
def execLd_D_B (s : State) : Out := .next (ldR8R8 .d .b s)

/-- `LD D,C` (51): R150. -/
def execLd_D_C (s : State) : Out := .next (ldR8R8 .d .c s)

/-- `LD D,D` (52): R150. -/
def execLd_D_D (s : State) : Out := .next (ldR8R8 .d .d s)

/-- `LD D,E` (53): R150. -/
def execLd_D_E (s : State) : Out := .next (ldR8R8 .d .e s)

/-- `LD D,H` (54): R150. -/
def execLd_D_H (s : State) : Out := .next (ldR8R8 .d .h s)

/-- `LD D,L` (55): R150. -/
def execLd_D_L (s : State) : Out := .next (ldR8R8 .d .l s)

/-- `LD D,(HL)` (56): R151. -/
def execLd_D_mHL (s : State) : Out := .next (ldR8R8 .d .hlInd s)

/-- `LD D,A` (57): R150. -/
def execLd_D_A (s : State) : Out := .next (ldR8R8 .d .a s)

/-- `LD E,B` (58): R150. -/
def execLd_E_B (s : State) : Out := .next (ldR8R8 .e .b s)

/-- `LD E,C` (59): R150. -/
def execLd_E_C (s : State) : Out := .next (ldR8R8 .e .c s)

/-- `LD E,D` (5A): R150. -/
def execLd_E_D (s : State) : Out := .next (ldR8R8 .e .d s)

/-- `LD E,E` (5B): R150. -/
def execLd_E_E (s : State) : Out := .next (ldR8R8 .e .e s)

/-- `LD E,H` (5C): R150. -/
def execLd_E_H (s : State) : Out := .next (ldR8R8 .e .h s)

/-- `LD E,L` (5D): R150. -/
def execLd_E_L (s : State) : Out := .next (ldR8R8 .e .l s)

/-- `LD E,(HL)` (5E): R151. -/
def execLd_E_mHL (s : State) : Out := .next (ldR8R8 .e .hlInd s)

/-- `LD E,A` (5F): R150. -/
def execLd_E_A (s : State) : Out := .next (ldR8R8 .e .a s)

/-- `LD H,B` (60): R150. -/
def execLd_H_B (s : State) : Out := .next (ldR8R8 .h .b s)

/-- `LD H,C` (61): R150. -/
def execLd_H_C (s : State) : Out := .next (ldR8R8 .h .c s)

/-- `LD H,D` (62): R150. -/
def execLd_H_D (s : State) : Out := .next (ldR8R8 .h .d s)

/-- `LD H,E` (63): R150. -/
def execLd_H_E (s : State) : Out := .next (ldR8R8 .h .e s)

/-- `LD H,H` (64): R150. -/
def execLd_H_H (s : State) : Out := .next (ldR8R8 .h .h s)

/-- `LD H,L` (65): R150. -/
def execLd_H_L (s : State) : Out := .next (ldR8R8 .h .l s)

/-- `LD H,(HL)` (66): R151. -/
def execLd_H_mHL (s : State) : Out := .next (ldR8R8 .h .hlInd s)

/-- `LD H,A` (67): R150. -/
def execLd_H_A (s : State) : Out := .next (ldR8R8 .h .a s)

/-- `LD L,B` (68): R150. -/
def execLd_L_B (s : State) : Out := .next (ldR8R8 .l .b s)

/-- `LD L,C` (69): R150. -/
def execLd_L_C (s : State) : Out := .next (ldR8R8 .l .c s)

/-- `LD L,D` (6A): R150. -/
def execLd_L_D (s : State) : Out := .next (ldR8R8 .l .d s)

/-- `LD L,E` (6B): R150. -/
def execLd_L_E (s : State) : Out := .next (ldR8R8 .l .e s)

/-- `LD L,H` (6C): R150. -/
def execLd_L_H (s : State) : Out := .next (ldR8R8 .l .h s)

/-- `LD L,L` (6D): R150. -/
def execLd_L_L (s : State) : Out := .next (ldR8R8 .l .l s)

/-- `LD L,(HL)` (6E): R151. -/
def execLd_L_mHL (s : State) : Out := .next (ldR8R8 .l .hlInd s)

/-- `LD L,A` (6F): R150. -/
def execLd_L_A (s : State) : Out := .next (ldR8R8 .l .a s)

/-- `LD (HL),B` (70): R152. -/
def execLd_mHL_B (s : State) : Out := .next (ldR8R8 .hlInd .b s)

/-- `LD (HL),C` (71): R152. -/
def execLd_mHL_C (s : State) : Out := .next (ldR8R8 .hlInd .c s)

/-- `LD (HL),D` (72): R152. -/
def execLd_mHL_D (s : State) : Out := .next (ldR8R8 .hlInd .d s)

/-- `LD (HL),E` (73): R152. -/
def execLd_mHL_E (s : State) : Out := .next (ldR8R8 .hlInd .e s)

/-- `LD (HL),H` (74): R152. -/
def execLd_mHL_H (s : State) : Out := .next (ldR8R8 .hlInd .h s)

/-- `LD (HL),L` (75): R152. -/
def execLd_mHL_L (s : State) : Out := .next (ldR8R8 .hlInd .l s)

/-- `LD (HL),A` (77): R152. -/
def execLd_mHL_A (s : State) : Out := .next (ldR8R8 .hlInd .a s)

/-- `LD A,B` (78): R150. -/
def execLd_A_B (s : State) : Out := .next (ldR8R8 .a .b s)

/-- `LD A,C` (79): R150. -/
def execLd_A_C (s : State) : Out := .next (ldR8R8 .a .c s)

/-- `LD A,D` (7A): R150. -/
def execLd_A_D (s : State) : Out := .next (ldR8R8 .a .d s)

/-- `LD A,E` (7B): R150. -/
def execLd_A_E (s : State) : Out := .next (ldR8R8 .a .e s)

/-- `LD A,H` (7C): R150. -/
def execLd_A_H (s : State) : Out := .next (ldR8R8 .a .h s)

/-- `LD A,L` (7D): R150. -/
def execLd_A_L (s : State) : Out := .next (ldR8R8 .a .l s)

/-- `LD A,(HL)` (7E): R151. -/
def execLd_A_mHL (s : State) : Out := .next (ldR8R8 .a .hlInd s)

/-- `LD A,A` (7F): R150. -/
def execLd_A_A (s : State) : Out := .next (ldR8R8 .a .a s)

/-- `LD (C),A` (E2): R165. -/
def execLd_mC_A (s : State) : Out := .next (storeA (highPage (s.reg .c)) s)

/-- `LD A,(C)` (F2): R166. -/
def execLd_A_mC (s : State) : Out := .next (loadA (highPage (s.reg .c)) s)

/-- `LD SP,HL` (F9): R169. -/
def execLd_SP_HL (s : State) : Out := .next (ldSpHl s)

end Sys2Proof.Machine
end

