-- ==== Sys2Proof/Machine/Stack.lean ====
section
/-! DEFINITION. PUSH and POP (spec/44_stack.md). -/

namespace Sys2Proof.Machine

/-- PUSH r16stk (R202). -/
def pushOp (r : R16Stk) (s : State) : State := s.push16 (s.pair (stkPair r))

/-- POP r16stk (R203): POP AF masks F and so sets all four flags. -/
def popOp (r : R16Stk) (s : State) : State := s.pop16.2.setPair (stkPair r) s.pop16.1

/-- `POP BC` (C1): R203. -/
def execPop_BC (s : State) : Out := .next (popOp .bc s)

/-- `PUSH BC` (C5): R202. -/
def execPush_BC (s : State) : Out := .next (pushOp .bc s)

/-- `POP DE` (D1): R203. -/
def execPop_DE (s : State) : Out := .next (popOp .de s)

/-- `PUSH DE` (D5): R202. -/
def execPush_DE (s : State) : Out := .next (pushOp .de s)

/-- `POP HL` (E1): R203. -/
def execPop_HL (s : State) : Out := .next (popOp .hl s)

/-- `PUSH HL` (E5): R202. -/
def execPush_HL (s : State) : Out := .next (pushOp .hl s)

/-- `POP AF` (F1): R203. -/
def execPop_AF (s : State) : Out := .next (popOp .af s)

/-- `PUSH AF` (F5): R202. -/
def execPush_AF (s : State) : Out := .next (pushOp .af s)

end Sys2Proof.Machine
end

