-- ==== Sys2Proof/WellFormed.lean ====
section
/-! DEFINITION. Which terms of `Instr` are instructions of a program. Two checks: an `unmapped op` names one of the eleven
bytes of R99, and the bare escape is no instruction (R92: it is resolved with its second byte). Every immediate is allowed
every value (R95). -/

namespace Sys2Proof

def Instr.wellFormed : Instr → Bool
  | .unmapped op => unmappedBytes.contains op
  | .prefixCb _ => false
  | _ => true

end Sys2Proof
end

