-- ==== Sys2Proof/Decode.lean ====
section
/-! DEFINITION. The decoder (R90 to R104 of spec/30_encoding.md) and the encoder.

The two grids are R103 and R104 written out, sixteen entries a row. The decoder consumes the bytes of one instruction from
a list and rejects by name only a list that ends too early; an unmapped byte decodes to `unmapped`, whose meaning is the
decode failure of R310. -/

namespace Sys2Proof

/-- The answer for one unprefixed byte: an instruction, one that still needs its immediate bytes (R93), the escape code
(R92) or no mapping (R99). -/
inductive Entry where
  | plain (i : Instr)
  | imm8 (f : Byte → Instr)
  | imm16 (f : Word → Instr)
  | escape
  | unmapped

/-- Row 0x of R103. -/
def gridRow0 : List Entry :=
  [.plain .nop, .imm16 .ld_BC_n16, .plain .ld_mBC_A, .plain .inc_BC,
   .plain .inc_B, .plain .dec_B, .imm8 .ld_B_n8, .plain .rlca,
   .imm16 .ld_ma16_SP, .plain .add_HL_BC, .plain .ld_A_mBC, .plain .dec_BC,
   .plain .inc_C, .plain .dec_C, .imm8 .ld_C_n8, .plain .rrca]

/-- Row 1x of R103. -/
def gridRow1 : List Entry :=
  [.imm8 .stop, .imm16 .ld_DE_n16, .plain .ld_mDE_A, .plain .inc_DE,
   .plain .inc_D, .plain .dec_D, .imm8 .ld_D_n8, .plain .rla,
   .imm8 .jr_e8, .plain .add_HL_DE, .plain .ld_A_mDE, .plain .dec_DE,
   .plain .inc_E, .plain .dec_E, .imm8 .ld_E_n8, .plain .rra]

/-- Row 2x of R103. -/
def gridRow2 : List Entry :=
  [.imm8 .jr_NZ_e8, .imm16 .ld_HL_n16, .plain .ld_mHLinc_A, .plain .inc_HL,
   .plain .inc_H, .plain .dec_H, .imm8 .ld_H_n8, .plain .daa,
   .imm8 .jr_Z_e8, .plain .add_HL_HL, .plain .ld_A_mHLinc, .plain .dec_HL,
   .plain .inc_L, .plain .dec_L, .imm8 .ld_L_n8, .plain .cpl]

/-- Row 3x of R103. -/
def gridRow3 : List Entry :=
  [.imm8 .jr_NC_e8, .imm16 .ld_SP_n16, .plain .ld_mHLdec_A, .plain .inc_SP,
   .plain .inc_mHL, .plain .dec_mHL, .imm8 .ld_mHL_n8, .plain .scf,
   .imm8 .jr_C_e8, .plain .add_HL_SP, .plain .ld_A_mHLdec, .plain .dec_SP,
   .plain .inc_A, .plain .dec_A, .imm8 .ld_A_n8, .plain .ccf]

/-- Row 4x of R103. -/
def gridRow4 : List Entry :=
  [.plain .ld_B_B, .plain .ld_B_C, .plain .ld_B_D, .plain .ld_B_E,
   .plain .ld_B_H, .plain .ld_B_L, .plain .ld_B_mHL, .plain .ld_B_A,
   .plain .ld_C_B, .plain .ld_C_C, .plain .ld_C_D, .plain .ld_C_E,
   .plain .ld_C_H, .plain .ld_C_L, .plain .ld_C_mHL, .plain .ld_C_A]

/-- Row 5x of R103. -/
def gridRow5 : List Entry :=
  [.plain .ld_D_B, .plain .ld_D_C, .plain .ld_D_D, .plain .ld_D_E,
   .plain .ld_D_H, .plain .ld_D_L, .plain .ld_D_mHL, .plain .ld_D_A,
   .plain .ld_E_B, .plain .ld_E_C, .plain .ld_E_D, .plain .ld_E_E,
   .plain .ld_E_H, .plain .ld_E_L, .plain .ld_E_mHL, .plain .ld_E_A]

/-- Row 6x of R103. -/
def gridRow6 : List Entry :=
  [.plain .ld_H_B, .plain .ld_H_C, .plain .ld_H_D, .plain .ld_H_E,
   .plain .ld_H_H, .plain .ld_H_L, .plain .ld_H_mHL, .plain .ld_H_A,
   .plain .ld_L_B, .plain .ld_L_C, .plain .ld_L_D, .plain .ld_L_E,
   .plain .ld_L_H, .plain .ld_L_L, .plain .ld_L_mHL, .plain .ld_L_A]

/-- Row 7x of R103. -/
def gridRow7 : List Entry :=
  [.plain .ld_mHL_B, .plain .ld_mHL_C, .plain .ld_mHL_D, .plain .ld_mHL_E,
   .plain .ld_mHL_H, .plain .ld_mHL_L, .plain .halt, .plain .ld_mHL_A,
   .plain .ld_A_B, .plain .ld_A_C, .plain .ld_A_D, .plain .ld_A_E,
   .plain .ld_A_H, .plain .ld_A_L, .plain .ld_A_mHL, .plain .ld_A_A]

/-- Row 8x of R103. -/
def gridRow8 : List Entry :=
  [.plain .add_A_B, .plain .add_A_C, .plain .add_A_D, .plain .add_A_E,
   .plain .add_A_H, .plain .add_A_L, .plain .add_A_mHL, .plain .add_A_A,
   .plain .adc_A_B, .plain .adc_A_C, .plain .adc_A_D, .plain .adc_A_E,
   .plain .adc_A_H, .plain .adc_A_L, .plain .adc_A_mHL, .plain .adc_A_A]

/-- Row 9x of R103. -/
def gridRow9 : List Entry :=
  [.plain .sub_B, .plain .sub_C, .plain .sub_D, .plain .sub_E,
   .plain .sub_H, .plain .sub_L, .plain .sub_mHL, .plain .sub_A,
   .plain .sbc_A_B, .plain .sbc_A_C, .plain .sbc_A_D, .plain .sbc_A_E,
   .plain .sbc_A_H, .plain .sbc_A_L, .plain .sbc_A_mHL, .plain .sbc_A_A]

/-- Row Ax of R103. -/
def gridRowA : List Entry :=
  [.plain .and_B, .plain .and_C, .plain .and_D, .plain .and_E,
   .plain .and_H, .plain .and_L, .plain .and_mHL, .plain .and_A,
   .plain .xor_B, .plain .xor_C, .plain .xor_D, .plain .xor_E,
   .plain .xor_H, .plain .xor_L, .plain .xor_mHL, .plain .xor_A]

/-- Row Bx of R103. -/
def gridRowB : List Entry :=
  [.plain .or_B, .plain .or_C, .plain .or_D, .plain .or_E,
   .plain .or_H, .plain .or_L, .plain .or_mHL, .plain .or_A,
   .plain .cp_B, .plain .cp_C, .plain .cp_D, .plain .cp_E,
   .plain .cp_H, .plain .cp_L, .plain .cp_mHL, .plain .cp_A]

/-- Row Cx of R103. -/
def gridRowC : List Entry :=
  [.plain .ret_NZ, .plain .pop_BC, .imm16 .jp_NZ_a16, .imm16 .jp_a16,
   .imm16 .call_NZ_a16, .plain .push_BC, .imm8 .add_A_n8, .plain .rst_0x00,
   .plain .ret_Z, .plain .ret, .imm16 .jp_Z_a16, .escape,
   .imm16 .call_Z_a16, .imm16 .call_a16, .imm8 .adc_A_n8, .plain .rst_0x08]

/-- Row Dx of R103. -/
def gridRowD : List Entry :=
  [.plain .ret_NC, .plain .pop_DE, .imm16 .jp_NC_a16, .unmapped,
   .imm16 .call_NC_a16, .plain .push_DE, .imm8 .sub_n8, .plain .rst_0x10,
   .plain .ret_C, .plain .reti, .imm16 .jp_C_a16, .unmapped,
   .imm16 .call_C_a16, .unmapped, .imm8 .sbc_A_n8, .plain .rst_0x18]

/-- Row Ex of R103. -/
def gridRowE : List Entry :=
  [.imm8 .ldh_ma8_A, .plain .pop_HL, .plain .ld_mC_A, .unmapped,
   .unmapped, .plain .push_HL, .imm8 .and_n8, .plain .rst_0x20,
   .imm8 .add_SP_e8, .plain .jp_HL, .imm16 .ld_ma16_A, .unmapped,
   .unmapped, .unmapped, .imm8 .xor_n8, .plain .rst_0x28]

/-- Row Fx of R103. -/
def gridRowF : List Entry :=
  [.imm8 .ldh_A_ma8, .plain .pop_AF, .plain .ld_A_mC, .plain .di,
   .unmapped, .plain .push_AF, .imm8 .or_n8, .plain .rst_0x30,
   .imm8 .ld_HL_SPe8, .plain .ld_SP_HL, .imm16 .ld_A_ma16, .plain .ei,
   .unmapped, .unmapped, .imm8 .cp_n8, .plain .rst_0x38]

/-- Row 0x of R104. -/
def cbRow0 : List Instr :=
  [.rlc_B, .rlc_C, .rlc_D, .rlc_E, .rlc_H, .rlc_L, .rlc_mHL, .rlc_A,
   .rrc_B, .rrc_C, .rrc_D, .rrc_E, .rrc_H, .rrc_L, .rrc_mHL, .rrc_A]

/-- Row 1x of R104. -/
def cbRow1 : List Instr :=
  [.rl_B, .rl_C, .rl_D, .rl_E, .rl_H, .rl_L, .rl_mHL, .rl_A,
   .rr_B, .rr_C, .rr_D, .rr_E, .rr_H, .rr_L, .rr_mHL, .rr_A]

/-- Row 2x of R104. -/
def cbRow2 : List Instr :=
  [.sla_B, .sla_C, .sla_D, .sla_E, .sla_H, .sla_L, .sla_mHL, .sla_A,
   .sra_B, .sra_C, .sra_D, .sra_E, .sra_H, .sra_L, .sra_mHL, .sra_A]

/-- Row 3x of R104. -/
def cbRow3 : List Instr :=
  [.swap_B, .swap_C, .swap_D, .swap_E, .swap_H, .swap_L, .swap_mHL, .swap_A,
   .srl_B, .srl_C, .srl_D, .srl_E, .srl_H, .srl_L, .srl_mHL, .srl_A]

/-- Row 4x of R104. -/
def cbRow4 : List Instr :=
  [.bit_0_B, .bit_0_C, .bit_0_D, .bit_0_E, .bit_0_H, .bit_0_L, .bit_0_mHL, .bit_0_A,
   .bit_1_B, .bit_1_C, .bit_1_D, .bit_1_E, .bit_1_H, .bit_1_L, .bit_1_mHL, .bit_1_A]

/-- Row 5x of R104. -/
def cbRow5 : List Instr :=
  [.bit_2_B, .bit_2_C, .bit_2_D, .bit_2_E, .bit_2_H, .bit_2_L, .bit_2_mHL, .bit_2_A,
   .bit_3_B, .bit_3_C, .bit_3_D, .bit_3_E, .bit_3_H, .bit_3_L, .bit_3_mHL, .bit_3_A]

/-- Row 6x of R104. -/
def cbRow6 : List Instr :=
  [.bit_4_B, .bit_4_C, .bit_4_D, .bit_4_E, .bit_4_H, .bit_4_L, .bit_4_mHL, .bit_4_A,
   .bit_5_B, .bit_5_C, .bit_5_D, .bit_5_E, .bit_5_H, .bit_5_L, .bit_5_mHL, .bit_5_A]

/-- Row 7x of R104. -/
def cbRow7 : List Instr :=
  [.bit_6_B, .bit_6_C, .bit_6_D, .bit_6_E, .bit_6_H, .bit_6_L, .bit_6_mHL, .bit_6_A,
   .bit_7_B, .bit_7_C, .bit_7_D, .bit_7_E, .bit_7_H, .bit_7_L, .bit_7_mHL, .bit_7_A]

/-- Row 8x of R104. -/
def cbRow8 : List Instr :=
  [.res_0_B, .res_0_C, .res_0_D, .res_0_E, .res_0_H, .res_0_L, .res_0_mHL, .res_0_A,
   .res_1_B, .res_1_C, .res_1_D, .res_1_E, .res_1_H, .res_1_L, .res_1_mHL, .res_1_A]

/-- Row 9x of R104. -/
def cbRow9 : List Instr :=
  [.res_2_B, .res_2_C, .res_2_D, .res_2_E, .res_2_H, .res_2_L, .res_2_mHL, .res_2_A,
   .res_3_B, .res_3_C, .res_3_D, .res_3_E, .res_3_H, .res_3_L, .res_3_mHL, .res_3_A]

/-- Row Ax of R104. -/
def cbRowA : List Instr :=
  [.res_4_B, .res_4_C, .res_4_D, .res_4_E, .res_4_H, .res_4_L, .res_4_mHL, .res_4_A,
   .res_5_B, .res_5_C, .res_5_D, .res_5_E, .res_5_H, .res_5_L, .res_5_mHL, .res_5_A]

/-- Row Bx of R104. -/
def cbRowB : List Instr :=
  [.res_6_B, .res_6_C, .res_6_D, .res_6_E, .res_6_H, .res_6_L, .res_6_mHL, .res_6_A,
   .res_7_B, .res_7_C, .res_7_D, .res_7_E, .res_7_H, .res_7_L, .res_7_mHL, .res_7_A]

/-- Row Cx of R104. -/
def cbRowC : List Instr :=
  [.set_0_B, .set_0_C, .set_0_D, .set_0_E, .set_0_H, .set_0_L, .set_0_mHL, .set_0_A,
   .set_1_B, .set_1_C, .set_1_D, .set_1_E, .set_1_H, .set_1_L, .set_1_mHL, .set_1_A]

/-- Row Dx of R104. -/
def cbRowD : List Instr :=
  [.set_2_B, .set_2_C, .set_2_D, .set_2_E, .set_2_H, .set_2_L, .set_2_mHL, .set_2_A,
   .set_3_B, .set_3_C, .set_3_D, .set_3_E, .set_3_H, .set_3_L, .set_3_mHL, .set_3_A]

/-- Row Ex of R104. -/
def cbRowE : List Instr :=
  [.set_4_B, .set_4_C, .set_4_D, .set_4_E, .set_4_H, .set_4_L, .set_4_mHL, .set_4_A,
   .set_5_B, .set_5_C, .set_5_D, .set_5_E, .set_5_H, .set_5_L, .set_5_mHL, .set_5_A]

/-- Row Fx of R104. -/
def cbRowF : List Instr :=
  [.set_6_B, .set_6_C, .set_6_D, .set_6_E, .set_6_H, .set_6_L, .set_6_mHL, .set_6_A,
   .set_7_B, .set_7_C, .set_7_D, .set_7_E, .set_7_H, .set_7_L, .set_7_mHL, .set_7_A]

/-- The unprefixed grid (R103). -/
def grid : List Entry :=
  gridRow0 ++ (gridRow1 ++ (gridRow2 ++ (gridRow3 ++ (gridRow4 ++ (gridRow5 ++ (gridRow6 ++ (gridRow7 ++
  (gridRow8 ++ (gridRow9 ++ (gridRowA ++ (gridRowB ++ (gridRowC ++ (gridRowD ++ (gridRowE ++ gridRowF))))))))))))))

/-- The prefixed grid (R104). -/
def cbGrid : List Instr :=
  cbRow0 ++ (cbRow1 ++ (cbRow2 ++ (cbRow3 ++ (cbRow4 ++ (cbRow5 ++ (cbRow6 ++ (cbRow7 ++
  (cbRow8 ++ (cbRow9 ++ (cbRowA ++ (cbRowB ++ (cbRowC ++ (cbRowD ++ (cbRowE ++ cbRowF))))))))))))))

/-- `Decode(op, false)` (R98). The grid lists all 256 bytes, so the default is never taken. -/
def entryOf (op : Byte) : Entry := grid.getD op.toNat .unmapped

/-- `Decode(op2, true)` (R98). The grid lists all 256 bytes, so the default is never taken. -/
def prefixedOf (op2 : Byte) : Instr := cbGrid.getD op2.toNat .nop

/-- Why a list of bytes holds no instruction. -/
inductive DecodeError where
  | noBytes          -- the list is empty
  | truncated        -- the list ends before the instruction does (R102)
deriving DecidableEq, Repr

/-- One instruction and the bytes after it (R100). Immediates are assembled as R95 says: low byte first. -/
def decode : List Byte → Except DecodeError (Instr × List Byte)
  | [] => .error .noBytes
  | op :: rest =>
    match entryOf op with
    | .plain i => .ok (i, rest)
    | .imm8 f =>
      match rest with
      | n :: rest => .ok (f n, rest)
      | [] => .error .truncated
    | .imm16 f =>
      match rest with
      | lo :: hi :: rest => .ok (f (joinBytes hi lo), rest)
      | _ => .error .truncated
    | .escape =>
      match rest with
      | op2 :: rest => .ok (prefixedOf op2, rest)
      | [] => .error .truncated
    | .unmapped => .ok (.unmapped op, rest)

/-- The length of an instruction by its first byte (R102), written from the rule, not from the grid. An unmapped byte is
one byte (R310 reads no more). -/
def lengthOf (op : Byte) : Nat :=
  let x := op.extractLsb' 6 2
  let z := op.extractLsb' 0 3
  if op = 0xCB ∨ op = 0x10 then 2
  else if x = 0 ∧ z = 1 ∧ op.getLsbD 3 = false then 3
  else if op ∈ ([0x08, 0xC2, 0xC3, 0xC4, 0xCA, 0xCC, 0xCD, 0xD2, 0xD4, 0xDA, 0xDC, 0xEA, 0xFA] : List Byte) then 3
  else if (x = 0 ∧ z = 6) ∨ (x = 3 ∧ z = 6) then 2
  else if op ∈ ([0x18, 0x20, 0x28, 0x30, 0x38, 0xE0, 0xF0, 0xE8, 0xF8] : List Byte) then 2
  else 1

/-- The bytes of an instruction, first byte first (R93, R95, R103, R104). -/
def encode : Instr → List Byte
  | .ld_BC_n16 n => [0x01, loByte n, hiByte n]
  | .ld_B_n8 n => [0x06, n]
  | .ld_ma16_SP a => [0x08, loByte a, hiByte a]
  | .ld_C_n8 n => [0x0E, n]
  | .stop ignored => [0x10, ignored]
  | .ld_DE_n16 n => [0x11, loByte n, hiByte n]
  | .ld_D_n8 n => [0x16, n]
  | .jr_e8 e => [0x18, e]
  | .ld_E_n8 n => [0x1E, n]
  | .jr_NZ_e8 e => [0x20, e]
  | .ld_HL_n16 n => [0x21, loByte n, hiByte n]
  | .ld_H_n8 n => [0x26, n]
  | .jr_Z_e8 e => [0x28, e]
  | .ld_L_n8 n => [0x2E, n]
  | .jr_NC_e8 e => [0x30, e]
  | .ld_SP_n16 n => [0x31, loByte n, hiByte n]
  | .ld_mHL_n8 n => [0x36, n]
  | .jr_C_e8 e => [0x38, e]
  | .ld_A_n8 n => [0x3E, n]
  | .jp_NZ_a16 a => [0xC2, loByte a, hiByte a]
  | .jp_a16 a => [0xC3, loByte a, hiByte a]
  | .call_NZ_a16 a => [0xC4, loByte a, hiByte a]
  | .add_A_n8 n => [0xC6, n]
  | .jp_Z_a16 a => [0xCA, loByte a, hiByte a]
  | .prefixCb op2 => [0xCB, op2]
  | .call_Z_a16 a => [0xCC, loByte a, hiByte a]
  | .call_a16 a => [0xCD, loByte a, hiByte a]
  | .adc_A_n8 n => [0xCE, n]
  | .jp_NC_a16 a => [0xD2, loByte a, hiByte a]
  | .unmapped op => [op]
  | .call_NC_a16 a => [0xD4, loByte a, hiByte a]
  | .sub_n8 n => [0xD6, n]
  | .jp_C_a16 a => [0xDA, loByte a, hiByte a]
  | .call_C_a16 a => [0xDC, loByte a, hiByte a]
  | .sbc_A_n8 n => [0xDE, n]
  | .ldh_ma8_A n => [0xE0, n]
  | .and_n8 n => [0xE6, n]
  | .add_SP_e8 e => [0xE8, e]
  | .ld_ma16_A a => [0xEA, loByte a, hiByte a]
  | .xor_n8 n => [0xEE, n]
  | .ldh_A_ma8 n => [0xF0, n]
  | .or_n8 n => [0xF6, n]
  | .ld_HL_SPe8 e => [0xF8, e]
  | .ld_A_ma16 a => [0xFA, loByte a, hiByte a]
  | .cp_n8 n => [0xFE, n]
  | .nop => [0x00]
  | .ld_mBC_A => [0x02]
  | .inc_BC => [0x03]
  | .inc_B => [0x04]
  | .dec_B => [0x05]
  | .rlca => [0x07]
  | .add_HL_BC => [0x09]
  | .ld_A_mBC => [0x0A]
  | .dec_BC => [0x0B]
  | .inc_C => [0x0C]
  | .dec_C => [0x0D]
  | .rrca => [0x0F]
  | .ld_mDE_A => [0x12]
  | .inc_DE => [0x13]
  | .inc_D => [0x14]
  | .dec_D => [0x15]
  | .rla => [0x17]
  | .add_HL_DE => [0x19]
  | .ld_A_mDE => [0x1A]
  | .dec_DE => [0x1B]
  | .inc_E => [0x1C]
  | .dec_E => [0x1D]
  | .rra => [0x1F]
  | .ld_mHLinc_A => [0x22]
  | .inc_HL => [0x23]
  | .inc_H => [0x24]
  | .dec_H => [0x25]
  | .daa => [0x27]
  | .add_HL_HL => [0x29]
  | .ld_A_mHLinc => [0x2A]
  | .dec_HL => [0x2B]
  | .inc_L => [0x2C]
  | .dec_L => [0x2D]
  | .cpl => [0x2F]
  | .ld_mHLdec_A => [0x32]
  | .inc_SP => [0x33]
  | .inc_mHL => [0x34]
  | .dec_mHL => [0x35]
  | .scf => [0x37]
  | .add_HL_SP => [0x39]
  | .ld_A_mHLdec => [0x3A]
  | .dec_SP => [0x3B]
  | .inc_A => [0x3C]
  | .dec_A => [0x3D]
  | .ccf => [0x3F]
  | .ld_B_B => [0x40]
  | .ld_B_C => [0x41]
  | .ld_B_D => [0x42]
  | .ld_B_E => [0x43]
  | .ld_B_H => [0x44]
  | .ld_B_L => [0x45]
  | .ld_B_mHL => [0x46]
  | .ld_B_A => [0x47]
  | .ld_C_B => [0x48]
  | .ld_C_C => [0x49]
  | .ld_C_D => [0x4A]
  | .ld_C_E => [0x4B]
  | .ld_C_H => [0x4C]
  | .ld_C_L => [0x4D]
  | .ld_C_mHL => [0x4E]
  | .ld_C_A => [0x4F]
  | .ld_D_B => [0x50]
  | .ld_D_C => [0x51]
  | .ld_D_D => [0x52]
  | .ld_D_E => [0x53]
  | .ld_D_H => [0x54]
  | .ld_D_L => [0x55]
  | .ld_D_mHL => [0x56]
  | .ld_D_A => [0x57]
  | .ld_E_B => [0x58]
  | .ld_E_C => [0x59]
  | .ld_E_D => [0x5A]
  | .ld_E_E => [0x5B]
  | .ld_E_H => [0x5C]
  | .ld_E_L => [0x5D]
  | .ld_E_mHL => [0x5E]
  | .ld_E_A => [0x5F]
  | .ld_H_B => [0x60]
  | .ld_H_C => [0x61]
  | .ld_H_D => [0x62]
  | .ld_H_E => [0x63]
  | .ld_H_H => [0x64]
  | .ld_H_L => [0x65]
  | .ld_H_mHL => [0x66]
  | .ld_H_A => [0x67]
  | .ld_L_B => [0x68]
  | .ld_L_C => [0x69]
  | .ld_L_D => [0x6A]
  | .ld_L_E => [0x6B]
  | .ld_L_H => [0x6C]
  | .ld_L_L => [0x6D]
  | .ld_L_mHL => [0x6E]
  | .ld_L_A => [0x6F]
  | .ld_mHL_B => [0x70]
  | .ld_mHL_C => [0x71]
  | .ld_mHL_D => [0x72]
  | .ld_mHL_E => [0x73]
  | .ld_mHL_H => [0x74]
  | .ld_mHL_L => [0x75]
  | .halt => [0x76]
  | .ld_mHL_A => [0x77]
  | .ld_A_B => [0x78]
  | .ld_A_C => [0x79]
  | .ld_A_D => [0x7A]
  | .ld_A_E => [0x7B]
  | .ld_A_H => [0x7C]
  | .ld_A_L => [0x7D]
  | .ld_A_mHL => [0x7E]
  | .ld_A_A => [0x7F]
  | .add_A_B => [0x80]
  | .add_A_C => [0x81]
  | .add_A_D => [0x82]
  | .add_A_E => [0x83]
  | .add_A_H => [0x84]
  | .add_A_L => [0x85]
  | .add_A_mHL => [0x86]
  | .add_A_A => [0x87]
  | .adc_A_B => [0x88]
  | .adc_A_C => [0x89]
  | .adc_A_D => [0x8A]
  | .adc_A_E => [0x8B]
  | .adc_A_H => [0x8C]
  | .adc_A_L => [0x8D]
  | .adc_A_mHL => [0x8E]
  | .adc_A_A => [0x8F]
  | .sub_B => [0x90]
  | .sub_C => [0x91]
  | .sub_D => [0x92]
  | .sub_E => [0x93]
  | .sub_H => [0x94]
  | .sub_L => [0x95]
  | .sub_mHL => [0x96]
  | .sub_A => [0x97]
  | .sbc_A_B => [0x98]
  | .sbc_A_C => [0x99]
  | .sbc_A_D => [0x9A]
  | .sbc_A_E => [0x9B]
  | .sbc_A_H => [0x9C]
  | .sbc_A_L => [0x9D]
  | .sbc_A_mHL => [0x9E]
  | .sbc_A_A => [0x9F]
  | .and_B => [0xA0]
  | .and_C => [0xA1]
  | .and_D => [0xA2]
  | .and_E => [0xA3]
  | .and_H => [0xA4]
  | .and_L => [0xA5]
  | .and_mHL => [0xA6]
  | .and_A => [0xA7]
  | .xor_B => [0xA8]
  | .xor_C => [0xA9]
  | .xor_D => [0xAA]
  | .xor_E => [0xAB]
  | .xor_H => [0xAC]
  | .xor_L => [0xAD]
  | .xor_mHL => [0xAE]
  | .xor_A => [0xAF]
  | .or_B => [0xB0]
  | .or_C => [0xB1]
  | .or_D => [0xB2]
  | .or_E => [0xB3]
  | .or_H => [0xB4]
  | .or_L => [0xB5]
  | .or_mHL => [0xB6]
  | .or_A => [0xB7]
  | .cp_B => [0xB8]
  | .cp_C => [0xB9]
  | .cp_D => [0xBA]
  | .cp_E => [0xBB]
  | .cp_H => [0xBC]
  | .cp_L => [0xBD]
  | .cp_mHL => [0xBE]
  | .cp_A => [0xBF]
  | .ret_NZ => [0xC0]
  | .pop_BC => [0xC1]
  | .push_BC => [0xC5]
  | .rst_0x00 => [0xC7]
  | .ret_Z => [0xC8]
  | .ret => [0xC9]
  | .rst_0x08 => [0xCF]
  | .ret_NC => [0xD0]
  | .pop_DE => [0xD1]
  | .push_DE => [0xD5]
  | .rst_0x10 => [0xD7]
  | .ret_C => [0xD8]
  | .reti => [0xD9]
  | .rst_0x18 => [0xDF]
  | .pop_HL => [0xE1]
  | .ld_mC_A => [0xE2]
  | .push_HL => [0xE5]
  | .rst_0x20 => [0xE7]
  | .jp_HL => [0xE9]
  | .rst_0x28 => [0xEF]
  | .pop_AF => [0xF1]
  | .ld_A_mC => [0xF2]
  | .di => [0xF3]
  | .push_AF => [0xF5]
  | .rst_0x30 => [0xF7]
  | .ld_SP_HL => [0xF9]
  | .ei => [0xFB]
  | .rst_0x38 => [0xFF]
  | .rlc_B => [0xCB, 0x00]
  | .rlc_C => [0xCB, 0x01]
  | .rlc_D => [0xCB, 0x02]
  | .rlc_E => [0xCB, 0x03]
  | .rlc_H => [0xCB, 0x04]
  | .rlc_L => [0xCB, 0x05]
  | .rlc_mHL => [0xCB, 0x06]
  | .rlc_A => [0xCB, 0x07]
  | .rrc_B => [0xCB, 0x08]
  | .rrc_C => [0xCB, 0x09]
  | .rrc_D => [0xCB, 0x0A]
  | .rrc_E => [0xCB, 0x0B]
  | .rrc_H => [0xCB, 0x0C]
  | .rrc_L => [0xCB, 0x0D]
  | .rrc_mHL => [0xCB, 0x0E]
  | .rrc_A => [0xCB, 0x0F]
  | .rl_B => [0xCB, 0x10]
  | .rl_C => [0xCB, 0x11]
  | .rl_D => [0xCB, 0x12]
  | .rl_E => [0xCB, 0x13]
  | .rl_H => [0xCB, 0x14]
  | .rl_L => [0xCB, 0x15]
  | .rl_mHL => [0xCB, 0x16]
  | .rl_A => [0xCB, 0x17]
  | .rr_B => [0xCB, 0x18]
  | .rr_C => [0xCB, 0x19]
  | .rr_D => [0xCB, 0x1A]
  | .rr_E => [0xCB, 0x1B]
  | .rr_H => [0xCB, 0x1C]
  | .rr_L => [0xCB, 0x1D]
  | .rr_mHL => [0xCB, 0x1E]
  | .rr_A => [0xCB, 0x1F]
  | .sla_B => [0xCB, 0x20]
  | .sla_C => [0xCB, 0x21]
  | .sla_D => [0xCB, 0x22]
  | .sla_E => [0xCB, 0x23]
  | .sla_H => [0xCB, 0x24]
  | .sla_L => [0xCB, 0x25]
  | .sla_mHL => [0xCB, 0x26]
  | .sla_A => [0xCB, 0x27]
  | .sra_B => [0xCB, 0x28]
  | .sra_C => [0xCB, 0x29]
  | .sra_D => [0xCB, 0x2A]
  | .sra_E => [0xCB, 0x2B]
  | .sra_H => [0xCB, 0x2C]
  | .sra_L => [0xCB, 0x2D]
  | .sra_mHL => [0xCB, 0x2E]
  | .sra_A => [0xCB, 0x2F]
  | .swap_B => [0xCB, 0x30]
  | .swap_C => [0xCB, 0x31]
  | .swap_D => [0xCB, 0x32]
  | .swap_E => [0xCB, 0x33]
  | .swap_H => [0xCB, 0x34]
  | .swap_L => [0xCB, 0x35]
  | .swap_mHL => [0xCB, 0x36]
  | .swap_A => [0xCB, 0x37]
  | .srl_B => [0xCB, 0x38]
  | .srl_C => [0xCB, 0x39]
  | .srl_D => [0xCB, 0x3A]
  | .srl_E => [0xCB, 0x3B]
  | .srl_H => [0xCB, 0x3C]
  | .srl_L => [0xCB, 0x3D]
  | .srl_mHL => [0xCB, 0x3E]
  | .srl_A => [0xCB, 0x3F]
  | .bit_0_B => [0xCB, 0x40]
  | .bit_0_C => [0xCB, 0x41]
  | .bit_0_D => [0xCB, 0x42]
  | .bit_0_E => [0xCB, 0x43]
  | .bit_0_H => [0xCB, 0x44]
  | .bit_0_L => [0xCB, 0x45]
  | .bit_0_mHL => [0xCB, 0x46]
  | .bit_0_A => [0xCB, 0x47]
  | .bit_1_B => [0xCB, 0x48]
  | .bit_1_C => [0xCB, 0x49]
  | .bit_1_D => [0xCB, 0x4A]
  | .bit_1_E => [0xCB, 0x4B]
  | .bit_1_H => [0xCB, 0x4C]
  | .bit_1_L => [0xCB, 0x4D]
  | .bit_1_mHL => [0xCB, 0x4E]
  | .bit_1_A => [0xCB, 0x4F]
  | .bit_2_B => [0xCB, 0x50]
  | .bit_2_C => [0xCB, 0x51]
  | .bit_2_D => [0xCB, 0x52]
  | .bit_2_E => [0xCB, 0x53]
  | .bit_2_H => [0xCB, 0x54]
  | .bit_2_L => [0xCB, 0x55]
  | .bit_2_mHL => [0xCB, 0x56]
  | .bit_2_A => [0xCB, 0x57]
  | .bit_3_B => [0xCB, 0x58]
  | .bit_3_C => [0xCB, 0x59]
  | .bit_3_D => [0xCB, 0x5A]
  | .bit_3_E => [0xCB, 0x5B]
  | .bit_3_H => [0xCB, 0x5C]
  | .bit_3_L => [0xCB, 0x5D]
  | .bit_3_mHL => [0xCB, 0x5E]
  | .bit_3_A => [0xCB, 0x5F]
  | .bit_4_B => [0xCB, 0x60]
  | .bit_4_C => [0xCB, 0x61]
  | .bit_4_D => [0xCB, 0x62]
  | .bit_4_E => [0xCB, 0x63]
  | .bit_4_H => [0xCB, 0x64]
  | .bit_4_L => [0xCB, 0x65]
  | .bit_4_mHL => [0xCB, 0x66]
  | .bit_4_A => [0xCB, 0x67]
  | .bit_5_B => [0xCB, 0x68]
  | .bit_5_C => [0xCB, 0x69]
  | .bit_5_D => [0xCB, 0x6A]
  | .bit_5_E => [0xCB, 0x6B]
  | .bit_5_H => [0xCB, 0x6C]
  | .bit_5_L => [0xCB, 0x6D]
  | .bit_5_mHL => [0xCB, 0x6E]
  | .bit_5_A => [0xCB, 0x6F]
  | .bit_6_B => [0xCB, 0x70]
  | .bit_6_C => [0xCB, 0x71]
  | .bit_6_D => [0xCB, 0x72]
  | .bit_6_E => [0xCB, 0x73]
  | .bit_6_H => [0xCB, 0x74]
  | .bit_6_L => [0xCB, 0x75]
  | .bit_6_mHL => [0xCB, 0x76]
  | .bit_6_A => [0xCB, 0x77]
  | .bit_7_B => [0xCB, 0x78]
  | .bit_7_C => [0xCB, 0x79]
  | .bit_7_D => [0xCB, 0x7A]
  | .bit_7_E => [0xCB, 0x7B]
  | .bit_7_H => [0xCB, 0x7C]
  | .bit_7_L => [0xCB, 0x7D]
  | .bit_7_mHL => [0xCB, 0x7E]
  | .bit_7_A => [0xCB, 0x7F]
  | .res_0_B => [0xCB, 0x80]
  | .res_0_C => [0xCB, 0x81]
  | .res_0_D => [0xCB, 0x82]
  | .res_0_E => [0xCB, 0x83]
  | .res_0_H => [0xCB, 0x84]
  | .res_0_L => [0xCB, 0x85]
  | .res_0_mHL => [0xCB, 0x86]
  | .res_0_A => [0xCB, 0x87]
  | .res_1_B => [0xCB, 0x88]
  | .res_1_C => [0xCB, 0x89]
  | .res_1_D => [0xCB, 0x8A]
  | .res_1_E => [0xCB, 0x8B]
  | .res_1_H => [0xCB, 0x8C]
  | .res_1_L => [0xCB, 0x8D]
  | .res_1_mHL => [0xCB, 0x8E]
  | .res_1_A => [0xCB, 0x8F]
  | .res_2_B => [0xCB, 0x90]
  | .res_2_C => [0xCB, 0x91]
  | .res_2_D => [0xCB, 0x92]
  | .res_2_E => [0xCB, 0x93]
  | .res_2_H => [0xCB, 0x94]
  | .res_2_L => [0xCB, 0x95]
  | .res_2_mHL => [0xCB, 0x96]
  | .res_2_A => [0xCB, 0x97]
  | .res_3_B => [0xCB, 0x98]
  | .res_3_C => [0xCB, 0x99]
  | .res_3_D => [0xCB, 0x9A]
  | .res_3_E => [0xCB, 0x9B]
  | .res_3_H => [0xCB, 0x9C]
  | .res_3_L => [0xCB, 0x9D]
  | .res_3_mHL => [0xCB, 0x9E]
  | .res_3_A => [0xCB, 0x9F]
  | .res_4_B => [0xCB, 0xA0]
  | .res_4_C => [0xCB, 0xA1]
  | .res_4_D => [0xCB, 0xA2]
  | .res_4_E => [0xCB, 0xA3]
  | .res_4_H => [0xCB, 0xA4]
  | .res_4_L => [0xCB, 0xA5]
  | .res_4_mHL => [0xCB, 0xA6]
  | .res_4_A => [0xCB, 0xA7]
  | .res_5_B => [0xCB, 0xA8]
  | .res_5_C => [0xCB, 0xA9]
  | .res_5_D => [0xCB, 0xAA]
  | .res_5_E => [0xCB, 0xAB]
  | .res_5_H => [0xCB, 0xAC]
  | .res_5_L => [0xCB, 0xAD]
  | .res_5_mHL => [0xCB, 0xAE]
  | .res_5_A => [0xCB, 0xAF]
  | .res_6_B => [0xCB, 0xB0]
  | .res_6_C => [0xCB, 0xB1]
  | .res_6_D => [0xCB, 0xB2]
  | .res_6_E => [0xCB, 0xB3]
  | .res_6_H => [0xCB, 0xB4]
  | .res_6_L => [0xCB, 0xB5]
  | .res_6_mHL => [0xCB, 0xB6]
  | .res_6_A => [0xCB, 0xB7]
  | .res_7_B => [0xCB, 0xB8]
  | .res_7_C => [0xCB, 0xB9]
  | .res_7_D => [0xCB, 0xBA]
  | .res_7_E => [0xCB, 0xBB]
  | .res_7_H => [0xCB, 0xBC]
  | .res_7_L => [0xCB, 0xBD]
  | .res_7_mHL => [0xCB, 0xBE]
  | .res_7_A => [0xCB, 0xBF]
  | .set_0_B => [0xCB, 0xC0]
  | .set_0_C => [0xCB, 0xC1]
  | .set_0_D => [0xCB, 0xC2]
  | .set_0_E => [0xCB, 0xC3]
  | .set_0_H => [0xCB, 0xC4]
  | .set_0_L => [0xCB, 0xC5]
  | .set_0_mHL => [0xCB, 0xC6]
  | .set_0_A => [0xCB, 0xC7]
  | .set_1_B => [0xCB, 0xC8]
  | .set_1_C => [0xCB, 0xC9]
  | .set_1_D => [0xCB, 0xCA]
  | .set_1_E => [0xCB, 0xCB]
  | .set_1_H => [0xCB, 0xCC]
  | .set_1_L => [0xCB, 0xCD]
  | .set_1_mHL => [0xCB, 0xCE]
  | .set_1_A => [0xCB, 0xCF]
  | .set_2_B => [0xCB, 0xD0]
  | .set_2_C => [0xCB, 0xD1]
  | .set_2_D => [0xCB, 0xD2]
  | .set_2_E => [0xCB, 0xD3]
  | .set_2_H => [0xCB, 0xD4]
  | .set_2_L => [0xCB, 0xD5]
  | .set_2_mHL => [0xCB, 0xD6]
  | .set_2_A => [0xCB, 0xD7]
  | .set_3_B => [0xCB, 0xD8]
  | .set_3_C => [0xCB, 0xD9]
  | .set_3_D => [0xCB, 0xDA]
  | .set_3_E => [0xCB, 0xDB]
  | .set_3_H => [0xCB, 0xDC]
  | .set_3_L => [0xCB, 0xDD]
  | .set_3_mHL => [0xCB, 0xDE]
  | .set_3_A => [0xCB, 0xDF]
  | .set_4_B => [0xCB, 0xE0]
  | .set_4_C => [0xCB, 0xE1]
  | .set_4_D => [0xCB, 0xE2]
  | .set_4_E => [0xCB, 0xE3]
  | .set_4_H => [0xCB, 0xE4]
  | .set_4_L => [0xCB, 0xE5]
  | .set_4_mHL => [0xCB, 0xE6]
  | .set_4_A => [0xCB, 0xE7]
  | .set_5_B => [0xCB, 0xE8]
  | .set_5_C => [0xCB, 0xE9]
  | .set_5_D => [0xCB, 0xEA]
  | .set_5_E => [0xCB, 0xEB]
  | .set_5_H => [0xCB, 0xEC]
  | .set_5_L => [0xCB, 0xED]
  | .set_5_mHL => [0xCB, 0xEE]
  | .set_5_A => [0xCB, 0xEF]
  | .set_6_B => [0xCB, 0xF0]
  | .set_6_C => [0xCB, 0xF1]
  | .set_6_D => [0xCB, 0xF2]
  | .set_6_E => [0xCB, 0xF3]
  | .set_6_H => [0xCB, 0xF4]
  | .set_6_L => [0xCB, 0xF5]
  | .set_6_mHL => [0xCB, 0xF6]
  | .set_6_A => [0xCB, 0xF7]
  | .set_7_B => [0xCB, 0xF8]
  | .set_7_C => [0xCB, 0xF9]
  | .set_7_D => [0xCB, 0xFA]
  | .set_7_E => [0xCB, 0xFB]
  | .set_7_H => [0xCB, 0xFC]
  | .set_7_L => [0xCB, 0xFD]
  | .set_7_mHL => [0xCB, 0xFE]
  | .set_7_A => [0xCB, 0xFF]

/-- The bytes of a table word, first byte first. A row of two bytes is written by the table with 0xCB in bits 15..8 and the
second byte in bits 7..0; every other word has its first byte in the low bits. -/
def tableBytes (nbits w : Nat) : List Byte :=
  if nbits ≤ 8 then [BitVec.ofNat 8 w]
  else if nbits ≤ 16 then
    if w / 256 = 0xCB then [0xCB, BitVec.ofNat 8 w] else [BitVec.ofNat 8 w, BitVec.ofNat 8 (w / 256)]
  else [BitVec.ofNat 8 w, BitVec.ofNat 8 (w / 256), BitVec.ofNat 8 (w / 65536)]

/-- The instruction of a table row. A word of one byte is answered by `Decode(op, false)` alone (R98) with its immediate
bytes zero, so the byte 0xCB answers the escape; a longer word is decoded from its bytes, zeros after them. -/
def decodeTableWord (nbits w : Nat) : Option Instr :=
  if nbits ≤ 8 then
    match entryOf (BitVec.ofNat 8 w) with
    | .plain i => some i
    | .imm8 f => some (f 0)
    | .imm16 f => some (f 0)
    | .escape => some (.prefixCb 0)
    | .unmapped => some (.unmapped (BitVec.ofNat 8 w))
  else
    match decode (tableBytes nbits w ++ [0, 0]) with
    | .ok (i, _) => some i
    | .error _ => none

end Sys2Proof
end

