-- ==== Sys2Proof/Machine/Fetch.lean ====
section
/-! DEFINITION. Fetching an instruction (R100 of spec/30_encoding.md, R304 of spec/60_exceptions.md), and placing one where the
next fetch reads it. -/

namespace Sys2Proof.Machine

/-- `FetchOpcode` (R304): under the HALT bug PC is not advanced, and the bug is spent. -/
def State.fetchOpcode (s : State) : Byte × State :=
  (s.busRead s.pc, if s.haltBug then { s with haltBug := false } else { s with pc := s.pc + 1 })

/-- `Fetch8` (R9). -/
def State.fetch8 (s : State) : Byte × State := (s.busRead s.pc, { s with pc := s.pc + 1 })

/-- `Fetch16` (R9, R54): the low byte first. -/
def State.fetch16 (s : State) : Word × State :=
  let lo := s.fetch8
  let hi := lo.2.fetch8
  (joinBytes hi.1 lo.1, hi.2)

/-- Fetch and decode one instruction (R100) from the state at the start of a step, waking a halted core (R305). The state
answered is the one the meaning runs in: PC past the instruction; for an unmapped byte it is the state at the start of the
step, unchanged (R310; log entry 8). -/
def State.fetchInstr (s : State) : Instr × State :=
  let f := { s with halted := false }.fetchOpcode
  match entryOf f.1 with
  | .plain i => (i, f.2)
  | .imm8 g => (g f.2.fetch8.1, f.2.fetch8.2)
  | .imm16 g => (g f.2.fetch16.1, f.2.fetch16.2)
  | .escape => (prefixedOf f.2.fetch8.1, f.2.fetch8.2)
  | .unmapped => (.unmapped f.1, s)

/-- Make the owner of an address answer a byte there, without the effects of a bus write. -/
def State.placeByte (s : State) (a : Word) (v : Byte) : State :=
  match ownerOf s.bootMapped a with
  | .bootRom => { s with bootRom := Memory.write s.bootRom a.toNat v }
  | .cart => { s with cart := { s.cart with image := Memory.put a.toNat v s.cart.image } }
  | .vram => { s with vram := { s.vram with image := Memory.put (a - 0x8000).toNat v s.vram.image } }
  | .wram => s.memWrite a v
  | .echo => s.memWrite (echoAddr s.params.echoMode a) v
  | .oam => s.memWrite a v
  | .io =>
    if a = 0xFF44 then { s with params := { s.params with lySentinel := v } } else s.memWrite a v
  | .intFlag =>
    { s with intFlag := v.setWidth 5, params := { s.params with ifUnusedRead := v.extractLsb' 5 3 } }
  | .hram => s.memWrite a v
  | .intEnable => { s with ie := v }

/-- Place bytes at rising addresses. -/
def State.placeBytes (s : State) (a : Word) : List Byte → State
  | [] => s
  | v :: vs => (s.placeByte a v).placeBytes (a + 1) vs

/-- The state with a table word placed at PC (zeros after it, three bytes in all) and everything that would keep the next
step from fetching it put aside: the terminal records, STOP, HALT, the HALT bug, and IME if a request is pending. -/
def State.placeTableWord (s : State) (nbits w : Nat) : State :=
  let t := s.placeBytes s.pc ((tableBytes nbits w ++ [0, 0]).take 3)
  { t with
    fault := none
    refused := none
    stopped := false
    halted := false
    haltBug := false
    ime := t.ime && decide (t.pend = 0) }

end Sys2Proof.Machine
end

