-- ==== Sys2Proof/Machine/Cycle.lean ====
section
/-! DEFINITION. One step of the core (R300 of spec/60_exceptions.md) around the dispatch `exec`. -/

namespace Sys2Proof

/-- A conditional form; an unmapped byte is none. -/
def Instr.conditional (i : Instr) : Bool :=
  match i.descriptor with
  | some d => d.conditional
  | none => false

/-- `cycles(res, taken)` (R350) in a cycle table: unconditional forms are always taken. -/
def Instr.cycles (i : Instr) (table : CycleTable) (taken : Bool) : Nat :=
  (table.row (encode i)).count (taken || !i.conditional)

end Sys2Proof

namespace Sys2Proof.Machine

/-- DI is the one instruction that R215 leaves out. -/
def isDi : Instr → Bool
  | .di => true
  | _ => false

/-- What a step does after a meaning (R215, R335): a decode failure ends the step at once and reports the fault; every other
instruction ends with R215 (`w` is `ei_pending` at the start of the step) and reports its cycles (R350). -/
def State.finish (i : Instr) (w : Bool) (t : State) : State :=
  match i with
  | .unmapped _ => { t with report := t.fault.map fun r => .fault r 0 }
  | _ => { t.endInstr w (isDi i) with report := some (.executed i (i.cycles t.params.cycles t.taken)) }

/-- Fetch, execute and finish one instruction (R100, R300). -/
def runInstr (s : State) : Out :=
  let f := s.fetchInstr
  match exec f.1 f.2 with
  | .next t => .next (t.finish f.1 s.eiPending)
  | .fault r => .fault r
  | .refused r => .refused r

/-- A dispatch as a step (R300, R302, R351): 24 cycles from HALT, else 20. -/
def dispatchStep (s : State) (src : Source) : State :=
  { s.dispatch src with report := some (.dispatched src (if s.halted then 24 else 20)) }

/-- A dispatch due under the HALT bug (R311): the refusal is recorded and nothing else changes. -/
def refuseDispatch (s : State) : State :=
  { s with refused := some .haltBugDispatch, report := some (.refused .haltBugDispatch 0) }

/-- A halted core with nothing pending (R300, R351). -/
def idleStep (s : State) : State := { s with report := some (.idle s.params.haltIdleCycles) }

/-- A step of a core with no terminal record that is not stopped (R300): dispatch if IME is set and a source is pending;
else idle if halted with nothing pending; else run an instruction. -/
def runStep (s : State) : Out :=
  match s.ime, lowestSource s.pend with
  | true, some src => if s.haltBug then .next (refuseDispatch s) else .next (dispatchStep s src)
  | _, none => if s.halted then .next (idleStep s) else runInstr s
  | false, some _ => runInstr s

/-- One step (R300). A terminal record and the STOP state have no step (R310, R311, R333). -/
def stepOnce (s : State) : Out :=
  match s.fault, s.refused with
  | some r, _ => .fault (.decodeFailure r)
  | none, some .haltBugDispatch => .refused .haltBugDispatch
  | none, none => if s.stopped then .fault .stopped else runStep s

end Sys2Proof.Machine
end

