-- ==== Sys2Proof/Machine/Step.lean ====
section
/-! DEFINITION. The step under its fixed name, and the placing of a table word for it. -/

namespace Sys2Proof.Machine

/-- One step of the machine (R300); the definition is `stepOnce`. -/
def step (s : State) : Host.Outcome State Fault Refusal := stepOnce s

/-- The state with a table word stored where `step` fetches its next instruction. -/
def State.withFetchWord (s : State) (nbits w : Nat) : State := s.placeTableWord nbits w

end Sys2Proof.Machine
end

