-- ==== Sys2Proof/Machine/HostMoves.lean ====
section
/-! DEFINITION. What the host does between steps (R330 to R334 of spec/60_exceptions.md): launch and the three moves. -/

namespace Sys2Proof.Machine

/-- What the host supplies and what is left open at power-on (R7, R41, R330): the draws, the boot ROM, the two external
owners and the parameters. -/
structure Draw where
  regs    : Regs
  sp      : Word
  ie      : Byte
  intFlag : BitVec 5
  mem     : List Host.Cell
  bootRom : List Host.Cell
  cart    : External
  vram    : External
  params  : Params
deriving DecidableEq, Repr

/-- The power-on state of R41 for given draws; F is drawn with its low nibble 0. -/
def State.powerOn (d : Draw) : State where
  regs       := { d.regs with f := d.regs.f &&& 0xF0 }
  sp         := d.sp
  pc         := 0
  ime        := false
  ie         := d.ie
  intFlag    := d.intFlag
  eiPending  := false
  halted     := false
  stopped    := false
  haltBug    := false
  bootMapped := true
  mem        := d.mem
  fault      := none
  refused    := none
  bootRom    := d.bootRom
  cart       := d.cart
  vram       := d.vram
  params     := d.params
  taken      := false
  report     := none

/-- The draws of `State.reset` (log entries 1 to 5). -/
def Draw.zero : Draw where
  regs    := { a := 0, f := 0, b := 0, c := 0, d := 0, e := 0, h := 0, l := 0 }
  sp      := 0
  ie      := 0
  intFlag := 0
  mem     := []
  bootRom := []
  cart    := { image := [], writes := [] }
  vram    := { image := [], writes := [] }
  params  := Params.default

/-- The optional post-boot launch profile (R342): its registers and SP, PC = 0x0100, the boot ROM unmapped; IE, IF and
memory stay draws. -/
def State.postBoot (d : Draw) : State :=
  { State.powerOn d with
    regs := { a := 0x01, f := 0xB0, b := 0x00, c := 0x13, d := 0x00, e := 0xD8, h := 0x01, l := 0x4D }
    sp := 0xFFFE
    pc := 0x0100
    bootMapped := false }

/-- The host's moves on a running core (R330). -/
inductive HostMove where
  | raise (src : Source)   -- R331
  | joypad (v : Byte)      -- R332
  | wake                   -- R333
deriving DecidableEq, Repr

/-- The effect of a move: one IF bit, the byte `io[0x00]`, or `stopped` while it is 1. -/
def HostMove.apply (m : HostMove) (s : State) : State :=
  match m with
  | .raise src => { s with intFlag := raiseSource s.intFlag src }
  | .joypad v => s.memWrite 0xFF00 v
  | .wake => { s with stopped := false }

end Sys2Proof.Machine
end

