-- ==== Sys2Proof/Machine/Run.lean ====
section
/-! DEFINITION. Runs and how they end (R330 and R336 of spec/60_exceptions.md): the states from a launch state through steps
and host moves. Which moves the host makes, and when, is left open (R331): a claim is stated over every sequence of moves, or
names the sequence as a premise. -/

namespace Sys2Proof.Machine

/-- What takes a run from one state to the next (R336). -/
inductive Move where
  | step
  | host (m : HostMove)
deriving DecidableEq, Repr

/-- The state after a move. Where the core has no step (R300: a terminal record, STOP) calling it changes nothing. -/
def Move.apply (m : Move) (s : State) : State :=
  match m with
  | .step =>
    match Sys2Proof.Machine.step s with
    | .next t => t
    | .fault _ => s
    | .refused _ => s
  | .host h => h.apply s

/-- The states of the run from a launch state through a sequence of moves, in order. -/
def runState (launch : State) (moves : Nat → Move) : Nat → State
  | 0 => launch
  | n + 1 => (moves n).apply (runState launch moves n)

/-- A launch state: power-on (R340), or the optional post-boot profile (R342), for some draws. -/
abbrev State.IsLaunch (s : State) : Prop := ∃ d : Draw, s = State.powerOn d ∨ s = State.postBoot d

/-- No host move from the `n`-th move on. -/
abbrev NoHostMove (moves : Nat → Move) (n : Nat) : Prop := ∀ k, n ≤ k → moves k = .step

/-- No host wake from the `n`-th move on. -/
abbrev NoWake (moves : Nat → Move) (n : Nat) : Prop := ∀ k, n ≤ k → moves k ≠ .host .wake

/-- The condition of R336 at the `n`-th state of a run: halted with nothing pending and no further host move, or stopped and
no host wake; a state with a terminal record is never final. DESIGN CHOICE (log entry 22): a stopped run has ended where no wake
follows, as R336 says, though other host moves may; U11 of spec/93_implementation_defined.md asks for no further host move. -/
def RunEnded (launch : State) (moves : Nat → Move) (n : Nat) : Prop :=
  let s := runState launch moves n
  s.fault = none ∧ s.refused = none ∧
    ((s.halted = true ∧ s.pend = 0 ∧ NoHostMove moves n) ∨ (s.stopped = true ∧ NoWake moves n))

/-- The run ends normally at its `n`-th state: the first that meets the condition (R336). -/
def RunEndsAt (launch : State) (moves : Nat → Move) (n : Nat) : Prop :=
  RunEnded launch moves n ∧ ∀ k < n, ¬ RunEnded launch moves k

/-- The run ends in this state: the state of the moment it ends (R336). -/
def RunEndsIn (launch : State) (moves : Nat → Move) (t : State) : Prop :=
  ∃ n, RunEndsAt launch moves n ∧ runState launch moves n = t

/-- The run reaches a terminal state: a fault or a refusal (R310, R311). -/
def RunReachesTerminal (launch : State) (moves : Nat → Move) : Prop :=
  ∃ n, (runState launch moves n).fault ≠ none ∨ (runState launch moves n).refused ≠ none

/-- The run never ends normally (R336: a hang). A run that reaches a terminal state never ends normally either;
`RunReachesTerminal` tells the two apart. -/
def RunHangs (launch : State) (moves : Nat → Move) : Prop := ∀ n, ¬ RunEndsAt launch moves n

end Sys2Proof.Machine
end

