-- ==== Sys2Proof/Safety.lean ====
section
/-! DEFINITION. The terms claims are stated in: the invariants of R42 (spec/10_state.md) with the canonical form of memory,
what a byte store can be seen to change, the states in which a run can end (R336; the runs themselves are in Machine/Run.lean). -/

namespace Sys2Proof.Machine

/-- F[3:0] = 0 (R22, R42). -/
abbrev State.FlagsClean (s : State) : Prop := s.regs.f &&& 0x0F = 0

/-- `halted` and `stopped` are never both 1 (R42). -/
abbrev State.OneWait (s : State) : Prop := ¬ (s.halted = true ∧ s.stopped = true)

/-- The bus-owned storage lists only addresses the bus owns as flat storage (R39): 0xC000 to 0xFFFE, never 0xFF0F. -/
abbrev State.MemOwned (s : State) : Prop :=
  ∀ c ∈ s.mem, 0xC000 ≤ c.1 ∧ c.1 ≤ 0xFFFE ∧ c.1 ≠ 0xFF0F

/-- The invariant of the machine: R42's clean F and single wait state, and the canonical form of the memories. -/
structure State.Inv (s : State) : Prop where
  flags   : s.FlagsClean
  oneWait : s.OneWait
  mem     : Memory.wf s.mem = true
  owned   : s.MemOwned
  boot    : Memory.wf s.bootRom = true
  cart    : Memory.rising s.cart.image = true
  vram    : Memory.rising s.vram.image = true

/-- The addresses whose reads a store of one byte at `w` may change (R53, R58, R59, R61, R64), by the state it is made in:
the address itself; its other view, when echo RAM mirrors working RAM; every address of the same external owner; and the
boot ROM's page, when the store unmaps it. -/
def State.seenBy (s : State) (w b : Word) : Prop :=
  b = w
  ∨ (s.params.echoMode = .mirrorWram ∧
      ((ownerOf false b = .echo ∧ b = w + 0x2000) ∨ (ownerOf false w = .echo ∧ w = b + 0x2000)))
  ∨ (ownerOf false w = .cart ∧ ownerOf s.bootMapped b = .cart)
  ∨ (ownerOf false w = .vram ∧ ownerOf s.bootMapped b = .vram)
  ∨ (w = 0xFF50 ∧ b ≤ 0x00FF)

/-- A run that stands in this state has ended normally if no host move follows (R336): halted with nothing pending, or
stopped, and no terminal record. -/
abbrev State.Ended (s : State) : Prop :=
  s.fault = none ∧ s.refused = none ∧ ((s.halted = true ∧ s.pend = 0) ∨ s.stopped = true)

end Sys2Proof.Machine
end

