-- ==== Sys2Proof/Certificates/Slice0/Obligations.lean ====
section
/-! DEFINITION. The statements for the provers. The terms they use beyond the model's own stand first, in `Sys2Proof.Claims`. -/

open Sys2Proof Sys2Proof.Machine

namespace Sys2Proof.Claims

/-- The next step runs an instruction (R300): no terminal record, not stopped, no dispatch due, not idle. -/
structure RunsInstr (s : State) : Prop where
  noFault    : s.fault = none
  noRefusal  : s.refused = none
  running    : s.stopped = false
  noDispatch : s.ime = false ∨ s.pend = 0
  awake      : s.halted = false ∨ s.pend ≠ 0

/-- The state an instruction runs in (R27, R304): a halted core is awake, PC is past the instruction's bytes, less one under
the HALT bug, which is spent. -/
def past (s : State) (i : Instr) : State :=
  { s with
    halted := false
    haltBug := false
    pc := s.pc + BitVec.ofNat 16 ((encode i).length - if s.haltBug then 1 else 0) }

/-- The three bytes the next instruction is read from, in the order of R304 and R55: the first from PC, the others from the
bytes after it, or, under the HALT bug, from PC again and the byte after it. -/
def fetchedBytes (s : State) : List Byte :=
  let next := if s.haltBug then s.pc else s.pc + 1
  [s.busRead s.pc, s.busRead next, s.busRead (next + 1)]

/-- The two bytes of a word pushed below SP (R200): the high byte at SP - 1 first, then the low byte at SP - 2. -/
def pushed (s : State) (v : Word) : State :=
  { (s.busWrite (s.sp - 1) (hiByte v)).busWrite (s.sp - 2) (loByte v) with sp := s.sp - 2 }

/-- The word at SP (R201). -/
def popValue (s : State) : Word := joinBytes (s.busRead (s.sp + 1)) (s.busRead s.sp)

/-- A and the four flags replaced, nothing else. -/
def withAF (s : State) (v : Byte) (z n h c : Bool) : State :=
  { s with regs := { s.regs with a := v, f := packFlags z n h c } }

/-- The four flags replaced, nothing else. -/
def withF (s : State) (z n h c : Bool) : State :=
  { s with regs := { s.regs with f := packFlags z n h c } }

/-- The instructions of a list are encoded in the bytes beside them. -/
def EncodedAs (l : List (Instr × List Byte)) : Prop := ∀ p ∈ l, encode p.1 = p.2

/-- The code of `r8` (R94). -/
def r8Code : R8 → Nat
  | .b => 0 | .c => 1 | .d => 2 | .e => 3 | .h => 4 | .l => 5 | .hlInd => 6 | .a => 7

/-- The code of `r16` (R94). -/
def r16Code : R16 → Nat
  | .bc => 0 | .de => 1 | .hl => 2 | .sp => 3

/-- The code of `alu` (R94). -/
def aluCode : AluOp → Nat
  | .add => 0 | .adc => 1 | .sub => 2 | .sbc => 3 | .and => 4 | .xor => 5 | .or => 6 | .cp => 7

/-- The code of `rot` (R94, R250). -/
def rotCode : RotOp → Nat
  | .rlc => 0 | .rrc => 1 | .rl => 2 | .rr => 3 | .sla => 4 | .sra => 5 | .swap => 6 | .srl => 7

/-- A byte of an opcode pattern, from its number. -/
def opByte (n : Nat) : Byte := BitVec.ofNat 8 n

/-- The operand byte of an `alu` instruction (R120): the register or memory byte its selector names, or the byte after the
opcode. -/
def AluOperand (op : AluOp) (i : Instr) (s : State) (v : Byte) : Prop :=
  (∃ r, i.descriptor = some (.aluR8 op r) ∧ s.readR8 r = v) ∨
  (i.descriptor = some (.aluN8 op) ∧ ∃ b, encode i = [b, v])

/-- The bytes of an `alu` instruction with its operand (R120): `10 ooo rrr`, or `11 ooo 110` and the operand byte. -/
def AluBytes (op : AluOp) (i : Instr) (s : State) (v : Byte) : Prop :=
  (∃ r, encode i = [opByte (0x80 + 8 * aluCode op + r8Code r)] ∧ s.readR8 r = v) ∨
  encode i = [opByte (0xC6 + 8 * aluCode op), v]

/-- The table of R230: the amount added to A and the new carry, from N, C, H and A. -/
def daaRow (n c h : Bool) (a : Byte) : Byte × Bool :=
  match n, c, h with
  | false, false, false =>
    if a.toNat ≤ 0x99 then (if a.toNat % 16 ≤ 9 then (0x00, false) else (0x06, false))
    else (if a.toNat % 16 ≤ 9 then (0x60, true) else (0x66, true))
  | false, false, true => if a.toNat ≤ 0x99 then (0x06, false) else (0x66, true)
  | false, true, false => if a.toNat % 16 ≤ 9 then (0x60, true) else (0x66, true)
  | false, true, true => (0x66, true)
  | true, false, false => (0x00, false)
  | true, false, true => (0xFA, false)
  | true, true, false => (0xA0, true)
  | true, true, true => (0x9A, true)

/-- The rotates and shifts as bits joined and cut (R251 to R258): the result and the new carry. -/
def rotated (op : RotOp) (v : Byte) (cf : Bool) : Byte × Bool :=
  match op with
  | .rlc => (v.extractLsb' 0 7 ++ v.extractLsb' 7 1, v.getLsbD 7)
  | .rrc => (v.extractLsb' 0 1 ++ v.extractLsb' 1 7, v.getLsbD 0)
  | .rl => (v.extractLsb' 0 7 ++ BitVec.ofBool cf, v.getLsbD 7)
  | .rr => (BitVec.ofBool cf ++ v.extractLsb' 1 7, v.getLsbD 0)
  | .sla => (v.extractLsb' 0 7 ++ (0 : BitVec 1), v.getLsbD 7)
  | .sra => (v.extractLsb' 7 1 ++ v.extractLsb' 1 7, v.getLsbD 0)
  | .swap => (v.extractLsb' 0 4 ++ v.extractLsb' 4 4, false)
  | .srl => ((0 : BitVec 1) ++ v.extractLsb' 1 7, v.getLsbD 0)

/-- The register a selector names, if it names one. -/
def regOf : R8 → List Reg
  | .b => [.b] | .c => [.c] | .d => [.d] | .e => [.e] | .h => [.h] | .l => [.l] | .hlInd => [] | .a => [.a]

def pairRegs (p : Pair) : List Reg := [p.hi, p.lo]

def r16Regs : R16 → List Reg
  | .bc => pairRegs .bc | .de => pairRegs .de | .hl => pairRegs .hl | .sp => []

def stepRegs : R16Mem → List Reg
  | .bc => [] | .de => [] | .hlInc => pairRegs .hl | .hlDec => pairRegs .hl

/-- The registers a descriptor's rule writes: its destination, HL where it steps, and F where it sets a flag. -/
def destRegs : Descriptor → List Reg
  | .ldR8R8 dst _ => regOf dst
  | .ldR8N8 dst => regOf dst
  | .ldR16N16 r => r16Regs r
  | .ldR16memA m => stepRegs m
  | .ldAR16mem m => .a :: stepRegs m
  | .ldAA16 | .ldhAA8 | .ldhAC => [.a]
  | .ldHlSpE8 => [.h, .l, .f]
  | .aluR8 op _ | .aluN8 op => if op = .cp then [.f] else [.a, .f]
  | .incR8 r | .decR8 r => .f :: regOf r
  | .addHlR16 _ => [.h, .l, .f]
  | .incR16 r | .decR16 r => r16Regs r
  | .addSpE8 => [.f]
  | .pop r => pairRegs (stkPair r)
  | .daa | .cpl | .rlca | .rrca | .rla | .rra => [.a, .f]
  | .scf | .ccf => [.f]
  | .rot _ r => .f :: regOf r
  | .bit _ _ => [.f]
  | .res _ r | .set _ r => regOf r
  | .nop | .stop | .halt | .di | .ei | .ldA16A | .ldhA8A | .ldhCA | .ldA16Sp | .ldSpHl => []
  | .jpA16 | .jpCcA16 _ | .jpHl | .jrE8 | .jrCcE8 _ | .callA16 | .callCcA16 _ => []
  | .ret | .retCc _ | .reti | .rst _ | .push _ => []

/-- Z is written (R25). -/
def writesZ : Descriptor → Bool
  | .aluR8 _ _ | .aluN8 _ | .incR8 _ | .decR8 _ | .daa | .rot _ _ | .bit _ _ => true
  | .rlca | .rrca | .rla | .rra | .addSpE8 | .ldHlSpE8 => true
  | .pop r => r == .af
  | _ => false

/-- H is written (R25). -/
def writesH : Descriptor → Bool
  | .aluR8 _ _ | .aluN8 _ | .incR8 _ | .decR8 _ | .addHlR16 _ | .addSpE8 | .ldHlSpE8 | .daa | .cpl | .scf | .ccf => true
  | .rlca | .rrca | .rla | .rra | .rot _ _ | .bit _ _ => true
  | .pop r => r == .af
  | _ => false

/-- N is written: by every instruction that writes H (R25) but DAA (R230). -/
def writesN (d : Descriptor) : Bool := writesH d && d != .daa

/-- C is written (R25). -/
def writesC : Descriptor → Bool
  | .aluR8 _ _ | .aluN8 _ | .addHlR16 _ | .addSpE8 | .ldHlSpE8 | .daa | .scf | .ccf => true
  | .rlca | .rrca | .rla | .rra | .rot _ _ => true
  | .pop r => r == .af
  | _ => false

/-- SP is written (R26). -/
def writesSp : Descriptor → Bool
  | .ldR16N16 r | .incR16 r | .decR16 r => r == .sp
  | .ldSpHl | .addSpE8 | .push _ | .pop _ | .callA16 | .callCcA16 _ | .ret | .retCc _ | .reti | .rst _ => true
  | _ => false

/-- The memory operand of a selector that the rule writes. -/
def memOf (s : State) : R8 → List Word
  | .hlInd => [s.hl]
  | _ => []

/-- The addresses an instruction stores one byte to, in the order of its rule, in the state it runs in. -/
def stores (i : Instr) (s : State) : List Word :=
  match i with
  | .ld_ma16_A a => [a]
  | .ld_ma16_SP a => [a, a + 1]
  | .ldh_ma8_A n => [highPage n]
  | _ =>
    match i.descriptor with
    | some (.ldR8R8 dst _) | some (.ldR8N8 dst) => memOf s dst
    | some (.incR8 r) | some (.decR8 r) | some (.rot _ r) | some (.res _ r) | some (.set _ r) => memOf s r
    | some (.ldR16memA m) => [s.memAddr m]
    | some .ldhCA => [highPage s.regs.c]
    | some .callA16 | some (.rst _) | some (.push _) => [s.sp - 1, s.sp - 2]
    | some (.callCcA16 cc) => if s.cond cc then [s.sp - 1, s.sp - 2] else []
    | _ => []

end Sys2Proof.Claims

open Sys2Proof.Claims

/-! ### Power-on and the invariants -/

/-- R41: the power-on value of every piece of state, the unspecified ones being any draw. -/
def Obligations.PowerOnState : Prop :=
  ∀ d : Draw,
    let s := State.powerOn d
    s.pc = 0x0000 ∧
    (s.regs.a = d.regs.a ∧ s.regs.b = d.regs.b ∧ s.regs.c = d.regs.c ∧ s.regs.d = d.regs.d ∧ s.regs.e = d.regs.e ∧
      s.regs.h = d.regs.h ∧ s.regs.l = d.regs.l) ∧
    (s.regs.f = d.regs.f &&& 0xF0 ∧ s.regs.f &&& 0x0F = 0) ∧
    s.sp = d.sp ∧ s.ime = false ∧ s.eiPending = false ∧ s.ie = d.ie ∧ s.intFlag = d.intFlag ∧
    s.halted = false ∧ s.stopped = false ∧ s.haltBug = false ∧ s.bootMapped = true ∧ s.mem = d.mem ∧
    s.fault = none ∧ s.refused = none

/-- The model's choice of draws (log entries 1, 2, 3, 5, 7): the reset state is the power-on state of zero draws, the spec's
default parameters and an empty boot ROM list. -/
def Obligations.ResetIsPowerOnOfZeroDraws : Prop :=
  State.reset = State.powerOn Draw.zero ∧ State.reset.params = Params.default ∧
    Params.default = { eiDelay := true, haltBugMode := .reproduce, haltIdleCycles := 4, echoMode := .distinct,
                       ifUnusedRead := 0b111, lySentinel := 0x90, cycles := CycleTable.default }

/-- The invariant holds at reset, and at power-on for every draw whose memories are in canonical form. -/
def Obligations.InvariantHoldsAtPowerOn : Prop :=
  State.reset.Inv ∧
  ∀ d : Draw, Memory.wf d.mem = true → (∀ c ∈ d.mem, 0xC000 ≤ c.1 ∧ c.1 ≤ 0xFFFE ∧ c.1 ≠ 0xFF0F) →
    Memory.wf d.bootRom = true → Memory.rising d.cart.image = true → Memory.rising d.vram.image = true →
    (State.powerOn d).Inv ∧ (State.postBoot d).Inv

/-- Every step from a state with the invariant gives a state with the invariant: F's low nibble stays 0, at most one wait
state, the memories canonical, the bus's own storage inside its regions. -/
def Obligations.StepKeepsInvariant : Prop :=
  ∀ s t : State, s.Inv → step s = .next t → t.Inv

/-- R42: F[3:0] = 0 is kept; the boot ROM is never mapped again; the terminal records are never undone (a state with one has
no next state); `halted` and `stopped` are never both set. -/
def Obligations.StepKeepsArchitecturalInvariants : Prop :=
  ∀ s t : State, step s = .next t →
    (s.regs.f &&& 0x0F = 0 → t.regs.f &&& 0x0F = 0) ∧
    (s.bootMapped = false → t.bootMapped = false) ∧
    (s.fault = none ∧ s.refused = none) ∧
    (¬ (s.halted = true ∧ s.stopped = true) → ¬ (t.halted = true ∧ t.stopped = true))

/-! ### The step -/

/-- A step runs the decoded instruction: where the next step runs an instruction and the bytes it fetches decode to a
well-formed instruction with a descriptor, the step is `exec` of it in the state past its bytes, then the end of instruction
(R215) and the report (R335), whose cycles are the parameter table's row of the instruction. -/
def Obligations.StepRunsTheDecodedInstruction : Prop :=
  ∀ (s : State) (i : Instr) (d : Descriptor) (rest : List Byte),
    RunsInstr s → decode (fetchedBytes s) = .ok (i, rest) → i.wellFormed = true → i.descriptor = some d →
    step s =
      match exec i (past s i) with
      | .next t =>
        .next { t with
          ime := if s.eiPending = true ∧ i ≠ .di then true else t.ime
          eiPending := if s.eiPending = true ∧ i ≠ .di then false else t.eiPending
          report := some (.executed i (i.cycles t.params.cycles t.taken)) }
      | .fault r => .fault r
      | .refused r => .refused r

/-- R310 with R306: a step that fetches an unmapped byte as an opcode changes nothing but the fault record (and the report):
the address of the byte, the byte, not prefixed; a halted core that wakes to it stays halted (log entry 8). No prefixed code
fails. -/
def Obligations.UnmappedOpcodeStopsTheCore : Prop :=
  (∀ s : State, RunsInstr s → s.busRead s.pc ∈ unmappedBytes →
    step s = .next { s with
      fault := some { pc := s.pc, opcode := s.busRead s.pc, prefixed := false }
      report := some (.fault { pc := s.pc, opcode := s.busRead s.pc, prefixed := false } 0) }) ∧
  (∀ op2 : Byte, ∃ d, (prefixedOf op2).descriptor = some d)

/-- The meaning of an unmapped byte (R38, R310) completes with the record set and nothing else changed. -/
def Obligations.UnmappedMeaningRecordsTheFailure : Prop :=
  ∀ (op : Byte) (s : State),
    exec (.unmapped op) s = .next { s with fault := some { pc := s.pc, opcode := op, prefixed := false } }

/-- R300, R310, R311, R333: a terminal record and the STOP state have no step. How `step` answers there is the model's choice
(log entry 12): the fault of the record, the refusal of the record, the fault `stopped`, and, where both records are set, the
fault before the refusal. -/
def Obligations.NoStepWhileTerminalOrStopped : Prop :=
  ∀ s : State,
    (∀ r, s.fault = some r → step s = .fault (.decodeFailure r)) ∧
    (s.fault = none → s.refused = some .haltBugDispatch → step s = .refused .haltBugDispatch) ∧
    (s.fault = none → s.refused = none → s.stopped = true → step s = .fault .stopped)

/-- R302: with IME set and a source pending, the step is the dispatch of the lowest one: PC pushed, IME and the pending EI
cleared, the source's IF bit cleared as IF stands after the push, HALT left, PC at `0x0040 + 8 * bit`; nothing else. -/
def Obligations.DispatchSequence : Prop :=
  ∀ (s : State) (src : Source),
    s.fault = none → s.refused = none → s.stopped = false → s.ime = true → s.haltBug = false →
    lowestSource s.pend = some src →
    step s = .next { pushed s s.pc with
      ime := false
      eiPending := false
      intFlag := (pushed s s.pc).intFlag &&& ~~~((1 : BitVec 5) <<< src.bit)
      halted := false
      pc := BitVec.ofNat 16 (0x0040 + 8 * src.bit)
      report := some (.dispatched src (if s.halted then 24 else 20)) }

/-- R303: the pending set is `IE[4:0] & IF[4:0]`, and the source taken is its lowest set bit, or none when it is empty. -/
def Obligations.PendingSourceIsLowestBit : Prop :=
  (∀ s : State, ∀ k < 5, s.pend.getLsbD k = (s.ie.getLsbD k && s.intFlag.getLsbD k)) ∧
  (∀ p : BitVec 5, lowestSource p = none ↔ p = 0) ∧
  (∀ (p : BitVec 5) (src : Source),
    lowestSource p = some src ↔ p.getLsbD src.bit = true ∧ ∀ k < src.bit, p.getLsbD k = false)

/-- R311: a dispatch due while the HALT bug is armed is refused: the reason is recorded, no other state changes, the report
is `Refused` with 0 cycles, and the state then has no step. That `step` answers the refusal of the record there is the model's
choice (log entry 12). -/
def Obligations.DispatchUnderHaltBugIsRefused : Prop :=
  ∀ s : State,
    s.fault = none → s.refused = none → s.stopped = false → s.ime = true → s.haltBug = true → s.pend ≠ 0 →
    ∃ t, step s = .next t ∧
      t = { s with refused := some .haltBugDispatch, report := some (.refused .haltBugDispatch 0) } ∧
      step t = .refused .haltBugDispatch

/-- R300, R305: a halted core with nothing pending idles: only the report changes, whatever IME is. -/
def Obligations.HaltedCoreIdles : Prop :=
  ∀ s : State,
    s.fault = none → s.refused = none → s.stopped = false → s.halted = true → s.pend = 0 →
    step s = .next { s with report := some (.idle s.params.haltIdleCycles) }

/-- R215: with `ei_pending` set at the start of the step, every executed instruction but DI ends with IME set and the pending
EI cleared; otherwise the two bits are as the instruction's rule leaves them. -/
def Obligations.PendingEiTakesEffectAfterOneInstruction : Prop :=
  ∀ (s t u : State) (i : Instr) (d : Descriptor) (rest : List Byte),
    RunsInstr s → decode (fetchedBytes s) = .ok (i, rest) → i.descriptor = some d →
    exec i (past s i) = .next u → step s = .next t →
    (s.eiPending = true → i ≠ .di → t.ime = true ∧ t.eiPending = false) ∧
    (s.eiPending = false ∨ i = .di → t.ime = u.ime ∧ t.eiPending = u.eiPending)

/-! ### The bus, registers and operands -/

/-- R52: a bus read, address by address. -/
def Obligations.BusReadResolvesEveryAddress : Prop :=
  ∀ (s : State) (a : Word),
    s.busRead a =
      if s.bootMapped = true ∧ a.toNat ≤ 0x00FF then Memory.read s.bootRom a.toNat
      else if a.toNat ≤ 0x7FFF then s.cart.cartRead a
      else if a.toNat ≤ 0x9FFF then s.vram.vramRead (a - 0x8000)
      else if a.toNat ≤ 0xBFFF then s.cart.cartRead a
      else if a.toNat ≤ 0xDFFF then Memory.read s.mem a.toNat
      else if a.toNat ≤ 0xFDFF then
        (if s.params.echoMode = .distinct then Memory.read s.mem a.toNat else Memory.read s.mem (a.toNat - 0x2000))
      else if a.toNat ≤ 0xFEFF then Memory.read s.mem a.toNat
      else if a.toNat = 0xFF0F then s.params.ifUnusedRead ++ s.intFlag
      else if a.toNat = 0xFF44 then s.params.lySentinel
      else if a.toNat ≤ 0xFFFE then Memory.read s.mem a.toNat
      else s.ie

/-- R53: a bus write, address by address, changes exactly the state named. -/
def Obligations.BusWriteResolvesEveryAddress : Prop :=
  ∀ (s : State) (a : Word) (v : Byte),
    s.busWrite a v =
      if a.toNat ≤ 0x7FFF then { s with cart := s.cart.cartWrite a v }
      else if a.toNat ≤ 0x9FFF then { s with vram := s.vram.vramWrite (a - 0x8000) v }
      else if a.toNat ≤ 0xBFFF then { s with cart := s.cart.cartWrite a v }
      else if a.toNat ≤ 0xDFFF then { s with mem := Memory.write s.mem a.toNat v }
      else if a.toNat ≤ 0xFDFF then
        { s with mem := Memory.write s.mem (if s.params.echoMode = .distinct then a.toNat else a.toNat - 0x2000) v }
      else if a.toNat ≤ 0xFEFF then { s with mem := Memory.write s.mem a.toNat v }
      else if a.toNat = 0xFF0F then { s with intFlag := v.extractLsb' 0 5 }
      else if a.toNat = 0xFF50 then { s with mem := Memory.write s.mem a.toNat v, bootMapped := false }
      else if a.toNat ≤ 0xFFFE then { s with mem := Memory.write s.mem a.toNat v }
      else { s with ie := v }

/-- Reading an address after writing it, for every address the bus or the interrupt controller owns: the byte written, except
IF (five bits kept, the unused ones as the parameter says) and the LCD line (the sentinel). Repeating a write of the same value
leaves the same state, at every address but the cartridge's (R67). -/
def Obligations.BusReadAfterWrite : Prop :=
  ∀ (s : State) (a : Word) (v : Byte),
    (0xC000 ≤ a.toNat →
      (s.busWrite a v).busRead a =
        if a = 0xFF0F then s.params.ifUnusedRead ++ v.extractLsb' 0 5
        else if a = 0xFF44 then s.params.lySentinel
        else v) ∧
    ((0x8000 ≤ a.toNat ∧ a.toNat ≤ 0x9FFF) ∨ 0xC000 ≤ a.toNat →
      (s.busWrite a v).busWrite a v = s.busWrite a v)

/-- A bus write leaves the read of every address it cannot be seen at as it was. -/
def Obligations.BusWriteLeavesOtherAddresses : Prop :=
  ∀ (s : State) (w b : Word) (v : Byte), ¬ s.seenBy w b → (s.busWrite w v).busRead b = s.busRead b

/-- R64: a write of any value to 0xFF50 unmaps the boot ROM in the same access and stores the value, which a read returns; no
other write maps or unmaps it; from then on 0x0000-0x00FF are the cartridge's. -/
def Obligations.BootSwitchIsOneWay : Prop :=
  ∀ (s : State) (a : Word) (v : Byte),
    ((s.busWrite 0xFF50 v).bootMapped = false ∧ (s.busWrite 0xFF50 v).busRead 0xFF50 = v) ∧
    (a ≠ 0xFF50 → (s.busWrite a v).bootMapped = s.bootMapped) ∧
    (s.bootMapped = false → (s.busWrite a v).bootMapped = false) ∧
    (s.bootMapped = false → a.toNat ≤ 0x00FF → s.busRead a = s.cart.cartRead a)

/-- R21, R22, R23: a pair is its two registers, the first named in bits 15..8; writing it writes both, F masked. -/
def Obligations.PairsAreTwoRegisters : Prop :=
  ∀ (s : State) (v : Word),
    (s.pair .bc = s.regs.b ++ s.regs.c ∧ s.pair .de = s.regs.d ++ s.regs.e ∧ s.pair .hl = s.regs.h ++ s.regs.l ∧
      s.pair .af = s.regs.a ++ (s.regs.f &&& 0xF0)) ∧
    (s.setPair .bc v = { s with regs := { s.regs with b := hiByte v, c := loByte v } } ∧
      s.setPair .de v = { s with regs := { s.regs with d := hiByte v, e := loByte v } } ∧
      s.setPair .hl v = { s with regs := { s.regs with h := hiByte v, l := loByte v } } ∧
      s.setPair .af v = { s with regs := { s.regs with a := hiByte v, f := loByte v &&& 0xF0 } }) ∧
    (∀ p, p ≠ .af → (s.setPair p v).pair p = v) ∧ (s.setPair .af v).pair .af = v &&& 0xFFF0

/-- R22, R24: every write of F stores `v & 0xF0`; a read of F or AF has F[3:0] = 0 in every state; Z, N, H and C are bits 7,
6, 5 and 4. -/
def Obligations.FlagByteLayout : Prop :=
  (∀ (s : State) (v : Byte), (s.setReg .f v).regs.f = v &&& 0xF0) ∧
  (∀ (s : State) (v : Word), (s.setPair .af v).regs.f = loByte v &&& 0xF0) ∧
  (∀ s : State, s.reg .f &&& 0x0F = 0 ∧ s.pair .af &&& 0x000F = 0) ∧
  (∀ (s : State) (z n h c : Bool),
    let t := s.setFlags z n h c
    t.regs.f = (if z then 0x80 else 0) + (if n then 0x40 else 0) + (if h then 0x20 else 0) + (if c then 0x10 else 0) ∧
    t.flagZ = z ∧ t.flagN = n ∧ t.flagH = h ∧ t.flagC = c)

/-- R10: the selectors in the order of their codes, what the operand selectors read and write, and when a condition holds.
`r16stk` names a pair, F with its low nibble 0; `r16mem` is an address, after which HL+ and HL- move HL by one (modulo 65536). -/
def Obligations.OperandSelectors : Prop :=
  ∀ (s : State) (v : Byte) (w : Word),
    let hl : Word := s.regs.h ++ s.regs.l
    (s.readR8 .b = s.regs.b ∧ s.readR8 .c = s.regs.c ∧ s.readR8 .d = s.regs.d ∧ s.readR8 .e = s.regs.e ∧
      s.readR8 .h = s.regs.h ∧ s.readR8 .l = s.regs.l ∧ s.readR8 .a = s.regs.a ∧
      s.readR8 .hlInd = s.busRead (s.regs.h ++ s.regs.l)) ∧
    (s.writeR8 .b v = { s with regs := { s.regs with b := v } } ∧
      s.writeR8 .c v = { s with regs := { s.regs with c := v } } ∧
      s.writeR8 .d v = { s with regs := { s.regs with d := v } } ∧
      s.writeR8 .e v = { s with regs := { s.regs with e := v } } ∧
      s.writeR8 .h v = { s with regs := { s.regs with h := v } } ∧
      s.writeR8 .l v = { s with regs := { s.regs with l := v } } ∧
      s.writeR8 .a v = { s with regs := { s.regs with a := v } } ∧
      s.writeR8 .hlInd v = s.busWrite (s.regs.h ++ s.regs.l) v) ∧
    (s.readR16 .bc = s.regs.b ++ s.regs.c ∧ s.readR16 .de = s.regs.d ++ s.regs.e ∧
      s.readR16 .hl = s.regs.h ++ s.regs.l ∧ s.readR16 .sp = s.sp) ∧
    (s.writeR16 .bc w = { s with regs := { s.regs with b := hiByte w, c := loByte w } } ∧
      s.writeR16 .de w = { s with regs := { s.regs with d := hiByte w, e := loByte w } } ∧
      s.writeR16 .hl w = { s with regs := { s.regs with h := hiByte w, l := loByte w } } ∧
      s.writeR16 .sp w = { s with sp := w }) ∧
    (s.pair (stkPair .bc) = s.regs.b ++ s.regs.c ∧ s.pair (stkPair .de) = s.regs.d ++ s.regs.e ∧
      s.pair (stkPair .hl) = s.regs.h ++ s.regs.l ∧ s.pair (stkPair .af) = s.regs.a ++ (s.regs.f &&& 0xF0)) ∧
    (s.setPair (stkPair .bc) w = { s with regs := { s.regs with b := hiByte w, c := loByte w } } ∧
      s.setPair (stkPair .de) w = { s with regs := { s.regs with d := hiByte w, e := loByte w } } ∧
      s.setPair (stkPair .hl) w = { s with regs := { s.regs with h := hiByte w, l := loByte w } } ∧
      s.setPair (stkPair .af) w = { s with regs := { s.regs with a := hiByte w, f := loByte w &&& 0xF0 } }) ∧
    (s.memAddr .bc = s.regs.b ++ s.regs.c ∧ s.memAddr .de = s.regs.d ++ s.regs.e ∧
      s.memAddr .hlInc = hl ∧ s.memAddr .hlDec = hl) ∧
    (s.postStep .bc = s ∧ s.postStep .de = s ∧
      s.postStep .hlInc = { s with regs := { s.regs with h := hiByte (hl + 1), l := loByte (hl + 1) } } ∧
      s.postStep .hlDec = { s with regs := { s.regs with h := hiByte (hl - 1), l := loByte (hl - 1) } }) ∧
    (s.cond .z = s.regs.f.getLsbD 7 ∧ s.cond .nz = !s.regs.f.getLsbD 7 ∧
      s.cond .c = s.regs.f.getLsbD 4 ∧ s.cond .nc = !s.regs.f.getLsbD 4) ∧
    ([0, 1, 2, 3, 4, 5, 6, 7].map R8.ofCode = [.b, .c, .d, .e, .h, .l, .hlInd, .a] ∧
      [0, 1, 2, 3].map R16.ofCode = [.bc, .de, .hl, .sp] ∧ [0, 1, 2, 3].map R16Stk.ofCode = [.bc, .de, .hl, .af] ∧
      [0, 1, 2, 3].map R16Mem.ofCode = [.bc, .de, .hlInc, .hlDec] ∧ [0, 1, 2, 3].map Cond.ofCode = [.nz, .z, .nc, .c])

/-! ### Encoding -/

/-- Decoding the bytes of a well-formed instruction, whatever follows them, gives it back with what follows, for every
instruction and every value of its immediate. -/
def Obligations.DecodeOfEncode : Prop :=
  ∀ (i : Instr) (rest : List Byte), i.wellFormed = true → decode (encode i ++ rest) = .ok (i, rest)

/-- The other direction: what decodes is well formed, and the bytes consumed are its encoding and no others; so no two byte
sequences decode to one instruction (R101). -/
def Obligations.EncodeOfDecode : Prop :=
  ∀ (bs rest : List Byte) (i : Instr),
    decode bs = .ok (i, rest) → i.wellFormed = true ∧ bs = encode i ++ rest

/-- R96, R98: the grids decode every byte as the fields x, y, z, p, q of R91 say, for both opcode spaces. -/
def Obligations.GridsAgreeWithFields : Prop :=
  ∀ (op : Byte) (rest rest' : List Byte) (i : Instr),
    decode (op :: rest) = .ok (i, rest') →
    match decodeFields op false with
    | .instr d => i.descriptor = some d
    | .unmapped o => o = op ∧ i = .unmapped op ∧ op ∈ unmappedBytes
    | .escape => op = 0xCB ∧ ∃ op2 d, rest = op2 :: rest' ∧ decodeFields op2 true = .instr d ∧ i.descriptor = some d

/-- A few words written out from the spec's encodings decode to their instructions. -/
def Obligations.SampleWordsDecode : Prop :=
  decode [0b00000001, 0x34, 0x12] = .ok (.ld_BC_n16 0x1234, []) ∧
  decode [0b01000001] = .ok (.ld_B_C, []) ∧
  decode [0b10000110] = .ok (.add_A_mHL, []) ∧
  decode [0b11111110, 0x40] = .ok (.cp_n8 0x40, []) ∧
  decode [0b00111001] = .ok (.add_HL_SP, []) ∧
  decode [0b00100000, 0xFC] = .ok (.jr_NZ_e8 0xFC, []) ∧
  decode [0b11110101] = .ok (.push_AF, []) ∧
  decode [0b00010000, 0xD3] = .ok (.stop 0xD3, []) ∧
  decode [0b00100111] = .ok (.daa, []) ∧
  decode [0b11001011, 0b00110111] = .ok (.swap_A, []) ∧
  decode [0b11001011, 0b01111100] = .ok (.bit_7_H, []) ∧
  decode [0b11010011] = .ok (.unmapped 0xD3, [])

/-- The column `cycles` of spec/opcode_table.json (R350), read through the decoder and the default of the parameter `cycles`: an
unprefixed byte not taken and taken, and a prefixed byte. Two values are not the column's: the 0 of an unmapped byte is R351's,
and the 8 of the escape byte 0xCB, to which the table gives no number, is the model's choice (log entry 6: the unresolved
escape has the row of its second byte, here 0). -/
def Obligations.CyclesMatchTheTable : Prop :=
  (List.range 256).map (fun k => ((decodeTableWord 8 k).map (·.cycles CycleTable.default false)).getD 0) = [
      4, 12, 8, 8, 4, 4, 8, 4, 20, 8, 8, 8, 4, 4, 8, 4, 4, 12, 8, 8, 4, 4, 8, 4, 12, 8, 8, 8, 4, 4, 8, 4,
      8, 12, 8, 8, 4, 4, 8, 4, 8, 8, 8, 8, 4, 4, 8, 4, 8, 12, 8, 8, 12, 12, 12, 4, 8, 8, 8, 8, 4, 4, 8, 4,
      4, 4, 4, 4, 4, 4, 8, 4, 4, 4, 4, 4, 4, 4, 8, 4, 4, 4, 4, 4, 4, 4, 8, 4, 4, 4, 4, 4, 4, 4, 8, 4,
      4, 4, 4, 4, 4, 4, 8, 4, 4, 4, 4, 4, 4, 4, 8, 4, 8, 8, 8, 8, 8, 8, 4, 8, 4, 4, 4, 4, 4, 4, 8, 4,
      4, 4, 4, 4, 4, 4, 8, 4, 4, 4, 4, 4, 4, 4, 8, 4, 4, 4, 4, 4, 4, 4, 8, 4, 4, 4, 4, 4, 4, 4, 8, 4,
      4, 4, 4, 4, 4, 4, 8, 4, 4, 4, 4, 4, 4, 4, 8, 4, 4, 4, 4, 4, 4, 4, 8, 4, 4, 4, 4, 4, 4, 4, 8, 4,
      8, 12, 12, 16, 12, 16, 8, 16, 8, 16, 12, 8, 12, 24, 8, 16, 8, 12, 12, 0, 12, 16, 8, 16, 8, 16, 12, 0, 12, 0, 8, 16,
      12, 12, 8, 0, 0, 16, 8, 16, 16, 4, 16, 0, 0, 0, 8, 16, 12, 12, 8, 4, 0, 16, 8, 16, 12, 8, 16, 4, 0, 0, 8, 16] ∧
  (List.range 256).map (fun k => ((decodeTableWord 8 k).map (·.cycles CycleTable.default true)).getD 0) = [
      4, 12, 8, 8, 4, 4, 8, 4, 20, 8, 8, 8, 4, 4, 8, 4, 4, 12, 8, 8, 4, 4, 8, 4, 12, 8, 8, 8, 4, 4, 8, 4,
      12, 12, 8, 8, 4, 4, 8, 4, 12, 8, 8, 8, 4, 4, 8, 4, 12, 12, 8, 8, 12, 12, 12, 4, 12, 8, 8, 8, 4, 4, 8, 4,
      4, 4, 4, 4, 4, 4, 8, 4, 4, 4, 4, 4, 4, 4, 8, 4, 4, 4, 4, 4, 4, 4, 8, 4, 4, 4, 4, 4, 4, 4, 8, 4,
      4, 4, 4, 4, 4, 4, 8, 4, 4, 4, 4, 4, 4, 4, 8, 4, 8, 8, 8, 8, 8, 8, 4, 8, 4, 4, 4, 4, 4, 4, 8, 4,
      4, 4, 4, 4, 4, 4, 8, 4, 4, 4, 4, 4, 4, 4, 8, 4, 4, 4, 4, 4, 4, 4, 8, 4, 4, 4, 4, 4, 4, 4, 8, 4,
      4, 4, 4, 4, 4, 4, 8, 4, 4, 4, 4, 4, 4, 4, 8, 4, 4, 4, 4, 4, 4, 4, 8, 4, 4, 4, 4, 4, 4, 4, 8, 4,
      20, 12, 16, 16, 24, 16, 8, 16, 20, 16, 16, 8, 24, 24, 8, 16, 20, 12, 16, 0, 24, 16, 8, 16, 20, 16, 16, 0, 24, 0, 8, 16,
      12, 12, 8, 0, 0, 16, 8, 16, 16, 4, 16, 0, 0, 0, 8, 16, 12, 12, 8, 4, 0, 16, 8, 16, 12, 8, 16, 4, 0, 0, 8, 16] ∧
  (List.range 256).map (fun k => ((decodeTableWord 16 (0xCB00 + k)).map (·.cycles CycleTable.default false)).getD 0) = [
      8, 8, 8, 8, 8, 8, 16, 8, 8, 8, 8, 8, 8, 8, 16, 8, 8, 8, 8, 8, 8, 8, 16, 8, 8, 8, 8, 8, 8, 8, 16, 8,
      8, 8, 8, 8, 8, 8, 16, 8, 8, 8, 8, 8, 8, 8, 16, 8, 8, 8, 8, 8, 8, 8, 16, 8, 8, 8, 8, 8, 8, 8, 16, 8,
      8, 8, 8, 8, 8, 8, 12, 8, 8, 8, 8, 8, 8, 8, 12, 8, 8, 8, 8, 8, 8, 8, 12, 8, 8, 8, 8, 8, 8, 8, 12, 8,
      8, 8, 8, 8, 8, 8, 12, 8, 8, 8, 8, 8, 8, 8, 12, 8, 8, 8, 8, 8, 8, 8, 12, 8, 8, 8, 8, 8, 8, 8, 12, 8,
      8, 8, 8, 8, 8, 8, 16, 8, 8, 8, 8, 8, 8, 8, 16, 8, 8, 8, 8, 8, 8, 8, 16, 8, 8, 8, 8, 8, 8, 8, 16, 8,
      8, 8, 8, 8, 8, 8, 16, 8, 8, 8, 8, 8, 8, 8, 16, 8, 8, 8, 8, 8, 8, 8, 16, 8, 8, 8, 8, 8, 8, 8, 16, 8,
      8, 8, 8, 8, 8, 8, 16, 8, 8, 8, 8, 8, 8, 8, 16, 8, 8, 8, 8, 8, 8, 8, 16, 8, 8, 8, 8, 8, 8, 8, 16, 8,
      8, 8, 8, 8, 8, 8, 16, 8, 8, 8, 8, 8, 8, 8, 16, 8, 8, 8, 8, 8, 8, 8, 16, 8, 8, 8, 8, 8, 8, 8, 16, 8]

/-! ### Loads -/

/-- R150, R151, R152: every `LD` between 8-bit operands copies the source as it was before the instruction to the
destination, and changes nothing else (the forms of the grid 0x40 to 0x7F). Their bytes are the rules'. -/
def Obligations.LoadsCopyTheSource : Prop :=
  ∀ (i : Instr) (dst src : R8) (s : State), i.descriptor = some (.ldR8R8 dst src) →
    encode i = [opByte (0x40 + 8 * r8Code dst + r8Code src)] ∧ ¬ (dst = .hlInd ∧ src = .hlInd) ∧
    exec i s = .next (s.writeR8 dst (s.readR8 src))

/-- R153, R154, R167: the immediate is stored in the destination, and nothing else changes. Their bytes are the rules'. -/
def Obligations.LoadsOfImmediates : Prop :=
  ∀ (s : State) (n : Byte) (w : Word),
    EncodedAs [(.ld_B_n8 n, [0x06, n]), (.ld_C_n8 n, [0x0E, n]), (.ld_D_n8 n, [0x16, n]), (.ld_E_n8 n, [0x1E, n]),
      (.ld_H_n8 n, [0x26, n]), (.ld_L_n8 n, [0x2E, n]), (.ld_mHL_n8 n, [0x36, n]), (.ld_A_n8 n, [0x3E, n]),
      (.ld_BC_n16 w, [0x01, loByte w, hiByte w]), (.ld_DE_n16 w, [0x11, loByte w, hiByte w]),
      (.ld_HL_n16 w, [0x21, loByte w, hiByte w]), (.ld_SP_n16 w, [0x31, loByte w, hiByte w])] ∧
    exec (.ld_B_n8 n) s = .next { s with regs := { s.regs with b := n } } ∧
    exec (.ld_C_n8 n) s = .next { s with regs := { s.regs with c := n } } ∧
    exec (.ld_D_n8 n) s = .next { s with regs := { s.regs with d := n } } ∧
    exec (.ld_E_n8 n) s = .next { s with regs := { s.regs with e := n } } ∧
    exec (.ld_H_n8 n) s = .next { s with regs := { s.regs with h := n } } ∧
    exec (.ld_L_n8 n) s = .next { s with regs := { s.regs with l := n } } ∧
    exec (.ld_A_n8 n) s = .next { s with regs := { s.regs with a := n } } ∧
    exec (.ld_mHL_n8 n) s = .next (s.busWrite (s.regs.h ++ s.regs.l) n) ∧
    exec (.ld_BC_n16 w) s = .next { s with regs := { s.regs with b := hiByte w, c := loByte w } } ∧
    exec (.ld_DE_n16 w) s = .next { s with regs := { s.regs with d := hiByte w, e := loByte w } } ∧
    exec (.ld_HL_n16 w) s = .next { s with regs := { s.regs with h := hiByte w, l := loByte w } } ∧
    exec (.ld_SP_n16 w) s = .next { s with sp := w }

/-- R155 to R160: A is stored at, or read from, the address in the pair; the HL+ and HL- forms then move HL by one, modulo
65536. Their bytes are the rules'. -/
def Obligations.LoadsThroughPairs : Prop :=
  ∀ s : State,
    let hl : Word := s.regs.h ++ s.regs.l
    EncodedAs [(.ld_mBC_A, [0x02]), (.ld_mDE_A, [0x12]), (.ld_mHLinc_A, [0x22]), (.ld_mHLdec_A, [0x32]),
      (.ld_A_mBC, [0x0A]), (.ld_A_mDE, [0x1A]), (.ld_A_mHLinc, [0x2A]), (.ld_A_mHLdec, [0x3A])] ∧
    exec .ld_mBC_A s = .next (s.busWrite (s.regs.b ++ s.regs.c) s.regs.a) ∧
    exec .ld_mDE_A s = .next (s.busWrite (s.regs.d ++ s.regs.e) s.regs.a) ∧
    exec .ld_mHLinc_A s =
      .next { s.busWrite hl s.regs.a with regs := { s.regs with h := hiByte (hl + 1), l := loByte (hl + 1) } } ∧
    exec .ld_mHLdec_A s =
      .next { s.busWrite hl s.regs.a with regs := { s.regs with h := hiByte (hl - 1), l := loByte (hl - 1) } } ∧
    exec .ld_A_mBC s = .next { s with regs := { s.regs with a := s.busRead (s.regs.b ++ s.regs.c) } } ∧
    exec .ld_A_mDE s = .next { s with regs := { s.regs with a := s.busRead (s.regs.d ++ s.regs.e) } } ∧
    exec .ld_A_mHLinc s =
      .next { s with regs := { s.regs with a := s.busRead hl, h := hiByte (hl + 1), l := loByte (hl + 1) } } ∧
    exec .ld_A_mHLdec s =
      .next { s with regs := { s.regs with a := s.busRead hl, h := hiByte (hl - 1), l := loByte (hl - 1) } }

/-- R161 to R166: A is stored at, or read from, an absolute address, or an address of the page 0xFF00. Their bytes are the
rules'. -/
def Obligations.LoadsAtFixedAddresses : Prop :=
  ∀ (s : State) (a : Word) (n : Byte),
    EncodedAs [(.ld_ma16_A a, [0xEA, loByte a, hiByte a]), (.ld_A_ma16 a, [0xFA, loByte a, hiByte a]),
      (.ldh_ma8_A n, [0xE0, n]), (.ldh_A_ma8 n, [0xF0, n]), (.ld_mC_A, [0xE2]), (.ld_A_mC, [0xF2])] ∧
    exec (.ld_ma16_A a) s = .next (s.busWrite a s.regs.a) ∧
    exec (.ld_A_ma16 a) s = .next { s with regs := { s.regs with a := s.busRead a } } ∧
    exec (.ldh_ma8_A n) s = .next (s.busWrite (BitVec.ofNat 16 (0xFF00 + n.toNat)) s.regs.a) ∧
    exec (.ldh_A_ma8 n) s = .next { s with regs := { s.regs with a := s.busRead (BitVec.ofNat 16 (0xFF00 + n.toNat)) } } ∧
    exec .ld_mC_A s = .next (s.busWrite (BitVec.ofNat 16 (0xFF00 + s.regs.c.toNat)) s.regs.a) ∧
    exec .ld_A_mC s =
      .next { s with regs := { s.regs with a := s.busRead (BitVec.ofNat 16 (0xFF00 + s.regs.c.toNat)) } }

/-- R168, R169: SP is stored low byte first at a16 and a16 + 1; SP takes HL. Their bytes are the rules'. -/
def Obligations.LoadsOfStackPointer : Prop :=
  ∀ (s : State) (a : Word),
    EncodedAs [(.ld_ma16_SP a, [0x08, loByte a, hiByte a]), (.ld_SP_HL, [0xF9])] ∧
    exec (.ld_ma16_SP a) s = .next ((s.busWrite a (loByte s.sp)).busWrite (a + 1) (hiByte s.sp)) ∧
    exec .ld_SP_HL s = .next { s with sp := s.regs.h ++ s.regs.l }

/-- R143, R170: SP plus the signed byte, modulo 65536, to SP or to HL; Z and N clear, H and C the unsigned carries of the low
byte whatever the sign. Their bytes are the rules'. -/
def Obligations.StackPointerPlusOffset : Prop :=
  ∀ (s : State) (e : Byte),
    let v : Word := BitVec.ofInt 16 (s.sp.toNat + e.toInt)
    let h := decide (s.sp.toNat % 16 + e.toNat % 16 > 0xF)
    let c := decide (s.sp.toNat % 256 + e.toNat > 0xFF)
    EncodedAs [(.add_SP_e8 e, [0xE8, e]), (.ld_HL_SPe8 e, [0xF8, e])] ∧
    exec (.add_SP_e8 e) s = .next { s with sp := v, regs := { s.regs with f := packFlags false false h c } } ∧
    exec (.ld_HL_SPe8 e) s =
      .next { s with regs := { s.regs with h := hiByte v, l := loByte v, f := packFlags false false h c } }

/-! ### Arithmetic and logic -/

/-- R121, R122: ADD and ADC put the sum (with the carry flag for ADC) in A; Z of the result, N clear, H and C the carries out
of bits 3 and 7. Their bytes are the rules'. -/
def Obligations.AddAndAdcStoreTheSum : Prop :=
  ∀ (i : Instr) (s : State) (v : Byte),
    (AluOperand .add i s v → AluBytes .add i s v ∧
      exec i s = .next (withAF s (s.regs.a + v) (decide (s.regs.a + v = 0)) false
        (decide (s.regs.a.toNat % 16 + v.toNat % 16 > 15)) (decide (s.regs.a.toNat + v.toNat > 255)))) ∧
    (AluOperand .adc i s v →
      let k := if s.flagC then 1 else 0
      AluBytes .adc i s v ∧
      exec i s = .next (withAF s (s.regs.a + v + BitVec.ofNat 8 k) (decide (s.regs.a + v + BitVec.ofNat 8 k = 0)) false
        (decide (s.regs.a.toNat % 16 + v.toNat % 16 + k > 15)) (decide (s.regs.a.toNat + v.toNat + k > 255))))

/-- R123, R124, R128: SUB and SBC put the difference (less the carry flag for SBC) in A, CP keeps A; Z of the difference, N
set, H and C the borrows out of bits 3 and 7. Their bytes are the rules'. -/
def Obligations.SubSbcAndCpBorrow : Prop :=
  ∀ (i : Instr) (s : State) (v : Byte),
    let h := decide (s.regs.a.toNat % 16 < v.toNat % 16)
    let c := decide (s.regs.a.toNat < v.toNat)
    (AluOperand .sub i s v → AluBytes .sub i s v ∧
      exec i s = .next (withAF s (s.regs.a - v) (decide (s.regs.a = v)) true h c)) ∧
    (AluOperand .cp i s v → AluBytes .cp i s v ∧ exec i s = .next (withF s (decide (s.regs.a = v)) true h c)) ∧
    (AluOperand .sbc i s v →
      let k := if s.flagC then 1 else 0
      AluBytes .sbc i s v ∧
      exec i s = .next (withAF s (s.regs.a - v - BitVec.ofNat 8 k) (decide (s.regs.a - v - BitVec.ofNat 8 k = 0)) true
        (decide (s.regs.a.toNat % 16 < v.toNat % 16 + k)) (decide (s.regs.a.toNat < v.toNat + k))))

/-- R125, R126, R127: AND, XOR and OR; Z of the result, N and C clear, H set by AND only. Their bytes are the rules'. -/
def Obligations.LogicSetsFixedFlags : Prop :=
  ∀ (i : Instr) (s : State) (v : Byte),
    (AluOperand .and i s v → AluBytes .and i s v ∧
      exec i s = .next (withAF s (s.regs.a &&& v) (decide (s.regs.a &&& v = 0)) false true false)) ∧
    (AluOperand .xor i s v → AluBytes .xor i s v ∧
      exec i s = .next (withAF s (s.regs.a ^^^ v) (decide (s.regs.a = v)) false false false)) ∧
    (AluOperand .or i s v → AluBytes .or i s v ∧
      exec i s = .next (withAF s (s.regs.a ||| v) (decide (s.regs.a = 0 ∧ v = 0)) false false false))

/-- R129, R130: INC and DEC of an 8-bit operand: the operand plus or minus one, modulo 256, written back; Z of the result, N
by the operation, H from the low nibble, C unchanged. Their bytes are the rules'. -/
def Obligations.IncAndDecKeepCarry : Prop :=
  ∀ (i : Instr) (r : R8) (s : State),
    let v := s.readR8 r
    (i.descriptor = some (.incR8 r) → encode i = [opByte (0x04 + 8 * r8Code r)] ∧
      exec i s = .next (withF (s.writeR8 r (v + 1)) (decide (v = 0xFF)) false (decide (v &&& 0x0F = 0x0F)) s.flagC)) ∧
    (i.descriptor = some (.decR8 r) → encode i = [opByte (0x05 + 8 * r8Code r)] ∧
      exec i s = .next (withF (s.writeR8 r (v - 1)) (decide (v = 0x01)) true (decide (v &&& 0x0F = 0)) s.flagC))

/-- R140: ADD HL,r16: the sum modulo 65536 in HL; Z unchanged, N clear, H and C the carries out of bits 11 and 15. Their
bytes are the rules'. -/
def Obligations.AddHlCarriesFromBits11And15 : Prop :=
  ∀ (i : Instr) (r : R16) (s : State), i.descriptor = some (.addHlR16 r) →
    let hl : Word := s.regs.h ++ s.regs.l
    let v := s.readR16 r
    encode i = [opByte (0x09 + 16 * r16Code r)] ∧
    exec i s = .next { s with regs := { s.regs with
      h := hiByte (hl + v)
      l := loByte (hl + v)
      f := packFlags s.flagZ false (decide (hl.toNat % 0x1000 + v.toNat % 0x1000 > 0x0FFF))
        (decide (hl.toNat + v.toNat > 0xFFFF)) } }

/-- R141, R142: INC and DEC of a pair or SP: plus or minus one, modulo 65536, and nothing else, no flag. Their bytes are the
rules'. -/
def Obligations.IncAndDecOfPairsTouchNoFlags : Prop :=
  ∀ (i : Instr) (r : R16) (s : State),
    (i.descriptor = some (.incR16 r) → encode i = [opByte (0x03 + 16 * r16Code r)] ∧
      exec i s = .next (s.writeR16 r (s.readR16 r + 1))) ∧
    (i.descriptor = some (.decR16 r) → encode i = [opByte (0x0B + 16 * r16Code r)] ∧
      exec i s = .next (s.writeR16 r (s.readR16 r - 1)))

/-! ### Control transfer and the stack -/

/-- R180 to R184: jumps replace PC when their condition holds and leave it past the instruction when it does not; JR counts
from the byte after the instruction, modulo 65536. Their bytes are the rules'. -/
def Obligations.JumpsReplacePc : Prop :=
  ∀ (s : State) (a : Word) (e : Byte),
    EncodedAs [(.jp_a16 a, [0xC3, loByte a, hiByte a]), (.jp_NZ_a16 a, [0xC2, loByte a, hiByte a]),
      (.jp_Z_a16 a, [0xCA, loByte a, hiByte a]), (.jp_NC_a16 a, [0xD2, loByte a, hiByte a]),
      (.jp_C_a16 a, [0xDA, loByte a, hiByte a]), (.jp_HL, [0xE9]), (.jr_e8 e, [0x18, e]), (.jr_NZ_e8 e, [0x20, e]),
      (.jr_Z_e8 e, [0x28, e]), (.jr_NC_e8 e, [0x30, e]), (.jr_C_e8 e, [0x38, e])] ∧
    exec (.jp_a16 a) s = .next { s with pc := a } ∧
    exec .jp_HL s = .next { s with pc := s.regs.h ++ s.regs.l } ∧
    exec (.jr_e8 e) s = .next { s with pc := BitVec.ofInt 16 (s.pc.toNat + e.toInt) } ∧
    (∀ p ∈ [(Cond.nz, Instr.jp_NZ_a16 a), (.z, .jp_Z_a16 a), (.nc, .jp_NC_a16 a), (.c, .jp_C_a16 a)],
      exec p.2 s = .next (if s.cond p.1 then { s with pc := a, taken := true } else { s with taken := false })) ∧
    (∀ p ∈ [(Cond.nz, Instr.jr_NZ_e8 e), (.z, .jr_Z_e8 e), (.nc, .jr_NC_e8 e), (.c, .jr_C_e8 e)],
      exec p.2 s = .next (if s.cond p.1 then { s with pc := BitVec.ofInt 16 (s.pc.toNat + e.toInt), taken := true }
        else { s with taken := false }))

/-- R185, R186, R191 with R200: calls and restarts push PC (the byte after the instruction), high byte first at SP - 1, low
byte at SP - 2, and go to the target, `8 * t` for RST; a call not taken touches nothing. Their bytes are the rules'. -/
def Obligations.CallsPushTheReturnAddress : Prop :=
  ∀ (s : State) (a : Word),
    EncodedAs [(.call_a16 a, [0xCD, loByte a, hiByte a]), (.call_NZ_a16 a, [0xC4, loByte a, hiByte a]),
      (.call_Z_a16 a, [0xCC, loByte a, hiByte a]), (.call_NC_a16 a, [0xD4, loByte a, hiByte a]),
      (.call_C_a16 a, [0xDC, loByte a, hiByte a]), (.rst_0x00, [0xC7]), (.rst_0x08, [0xCF]), (.rst_0x10, [0xD7]),
      (.rst_0x18, [0xDF]), (.rst_0x20, [0xE7]), (.rst_0x28, [0xEF]), (.rst_0x30, [0xF7]), (.rst_0x38, [0xFF])] ∧
    exec (.call_a16 a) s = .next { pushed s s.pc with pc := a } ∧
    (∀ p ∈ [(Cond.nz, Instr.call_NZ_a16 a), (.z, .call_Z_a16 a), (.nc, .call_NC_a16 a), (.c, .call_C_a16 a)],
      exec p.2 s = .next (if s.cond p.1 then { pushed s s.pc with pc := a, taken := true } else { s with taken := false })) ∧
    (∀ p ∈ [((0x0000 : Word), Instr.rst_0x00), (0x0008, .rst_0x08), (0x0010, .rst_0x10), (0x0018, .rst_0x18),
        (0x0020, .rst_0x20), (0x0028, .rst_0x28), (0x0030, .rst_0x30), (0x0038, .rst_0x38)],
      exec p.2 s = .next { pushed s s.pc with pc := p.1 })

/-- R187, R188, R190 with R201: returns pop PC, low byte at SP, high byte at SP + 1; RETI also sets IME at once; a return not
taken touches nothing. Their bytes are the rules'. -/
def Obligations.ReturnsPopThePc : Prop :=
  ∀ s : State,
    EncodedAs [(.ret, [0xC9]), (.reti, [0xD9]), (.ret_NZ, [0xC0]), (.ret_Z, [0xC8]), (.ret_NC, [0xD0]), (.ret_C, [0xD8])] ∧
    exec .ret s = .next { s with pc := popValue s, sp := s.sp + 2 } ∧
    exec .reti s = .next { s with pc := popValue s, sp := s.sp + 2, ime := true } ∧
    (∀ p ∈ [(Cond.nz, Instr.ret_NZ), (.z, .ret_Z), (.nc, .ret_NC), (.c, .ret_C)],
      exec p.2 s = .next (if s.cond p.1 then { s with pc := popValue s, sp := s.sp + 2, taken := true }
        else { s with taken := false }))

/-- R202 with R200: PUSH stores the pair, F with its low nibble 0. Their bytes are the rules'. -/
def Obligations.PushStoresThePair : Prop :=
  ∀ s : State,
    EncodedAs [(.push_BC, [0xC5]), (.push_DE, [0xD5]), (.push_HL, [0xE5]), (.push_AF, [0xF5])] ∧
    exec .push_BC s = .next (pushed s (s.regs.b ++ s.regs.c)) ∧
    exec .push_DE s = .next (pushed s (s.regs.d ++ s.regs.e)) ∧
    exec .push_HL s = .next (pushed s (s.regs.h ++ s.regs.l)) ∧
    exec .push_AF s = .next (pushed s (s.regs.a ++ (s.regs.f &&& 0xF0)))

/-- R203 with R201: POP loads the pair from SP and SP + 1; POP AF masks F's low nibble. Their bytes are the rules'. -/
def Obligations.PopLoadsThePair : Prop :=
  ∀ s : State,
    let lo := s.busRead s.sp
    let hi := s.busRead (s.sp + 1)
    EncodedAs [(.pop_BC, [0xC1]), (.pop_DE, [0xD1]), (.pop_HL, [0xE1]), (.pop_AF, [0xF1])] ∧
    exec .pop_BC s = .next { s with sp := s.sp + 2, regs := { s.regs with b := hi, c := lo } } ∧
    exec .pop_DE s = .next { s with sp := s.sp + 2, regs := { s.regs with d := hi, e := lo } } ∧
    exec .pop_HL s = .next { s with sp := s.sp + 2, regs := { s.regs with h := hi, l := lo } } ∧
    exec .pop_AF s = .next { s with sp := s.sp + 2, regs := { s.regs with a := hi, f := lo &&& 0xF0 } }

/-! ### CPU control, accumulator and flags -/

/-- R211 to R214: STOP sets `stopped` whatever its second byte; NOP changes nothing; DI clears IME and the pending EI; EI
arms the delay, or sets IME where `ei_delay` is 0. Their bytes are the rules'. -/
def Obligations.StopNopDiEi : Prop :=
  ∀ (s : State) (x : Byte),
    EncodedAs [(.stop x, [0x10, x]), (.nop, [0x00]), (.di, [0xF3]), (.ei, [0xFB])] ∧
    exec (.stop x) s = .next { s with stopped := true } ∧
    exec .nop s = .next s ∧
    exec .di s = .next { s with ime := false, eiPending := false } ∧
    (s.params.eiDelay = true → exec .ei s = .next { s with eiPending := true }) ∧
    (s.params.eiDelay = false → exec .ei s = .next { s with ime := true })

/-- R210: HALT arms the HALT bug when it is reproduced, IME is 0 and a request is pending; otherwise it suspends the core.
Their bytes are the rules'. -/
def Obligations.HaltSuspendsOrArmsTheBug : Prop :=
  ∀ s : State,
    encode .halt = [0x76] ∧
    (s.params.haltBugMode = .reproduce ∧ s.ime = false ∧ s.pend ≠ 0 → exec .halt s = .next { s with haltBug := true }) ∧
    (s.params.haltBugMode = .cleanSuspend ∨ s.ime = true ∨ s.pend = 0 → exec .halt s = .next { s with halted := true })

/-- R230: DAA by the rule's table, for every A and F: Z of the result, N unchanged, H clear. Their bytes are the rules'. -/
def Obligations.DaaFollowsTheTable : Prop :=
  ∀ s : State,
    let row := daaRow s.flagN s.flagC s.flagH s.regs.a
    encode .daa = [0x27] ∧
    exec .daa s = .next (withAF s (s.regs.a + row.1) (decide (s.regs.a + row.1 = 0)) s.flagN false row.2)

/-- R231, R232, R233: CPL, SCF and CCF, Z unchanged. Their bytes are the rules'. -/
def Obligations.CplScfCcf : Prop :=
  ∀ s : State,
    EncodedAs [(.cpl, [0x2F]), (.scf, [0x37]), (.ccf, [0x3F])] ∧
    exec .cpl s = .next (withAF s (~~~s.regs.a) s.flagZ true true s.flagC) ∧
    exec .scf s = .next (withF s s.flagZ false false true) ∧
    exec .ccf s = .next (withF s s.flagZ false false (!s.flagC))

/-- R234 to R237: the accumulator rotates, Z always clear. Their bytes are the rules'. -/
def Obligations.AccumulatorRotatesClearZ : Prop :=
  ∀ s : State,
    EncodedAs [(.rlca, [0x07]), (.rrca, [0x0F]), (.rla, [0x17]), (.rra, [0x1F])] ∧
    ∀ p ∈ [(RotOp.rlc, Instr.rlca), (.rrc, .rrca), (.rl, .rla), (.rr, .rra)],
      exec p.2 s = .next (withAF s (rotated p.1 s.regs.a s.flagC).1 false false false (rotated p.1 s.regs.a s.flagC).2)

/-! ### Prefixed instructions -/

/-- R251 to R258: the prefixed rotates, shifts and SWAP on every operand: read, written back, Z of the result, N and H clear,
C the bit moved out (clear for SWAP). Their bytes are the rules'. That the unresolved escape `prefixCb` (no instruction by R92)
does the same as the instruction it resolves to is the model's choice (log entry 10). -/
def Obligations.PrefixedRotatesAndShifts : Prop :=
  ∀ (i : Instr) (op : RotOp) (r : R8) (s : State), i.descriptor = some (.rot op r) →
    let x := rotated op (s.readR8 r) s.flagC
    encode i = [0xCB, opByte (8 * rotCode op + r8Code r)] ∧
    exec i s = .next (withF (s.writeR8 r x.1) (decide (x.1 = 0)) false false x.2)

/-- R259, R260, R261: BIT sets Z to the complement of the bit, N clear, H set, C unchanged, and writes nothing; RES and SET
write the operand back with that one bit changed, no flags. Their bytes are the rules'. That the unresolved escape `prefixCb`
(no instruction by R92) does the same as the instruction it resolves to is the model's choice (log entry 10). -/
def Obligations.BitResSetActOnOneBit : Prop :=
  ∀ (i : Instr) (b : Fin 8) (r : R8) (s : State),
    (i.descriptor = some (.bit b r) → encode i = [0xCB, opByte (0x40 + 8 * b.val + r8Code r)] ∧
      exec i s = .next (withF s (!(s.readR8 r).getLsbD b.val) false true s.flagC)) ∧
    (i.descriptor = some (.res b r) → encode i = [0xCB, opByte (0x80 + 8 * b.val + r8Code r)] ∧
      ∃ w : Byte, (∀ k < 8, w.getLsbD k = if k = b.val then false else (s.readR8 r).getLsbD k) ∧
        exec i s = .next (s.writeR8 r w)) ∧
    (i.descriptor = some (.set b r) → encode i = [0xCB, opByte (0xC0 + 8 * b.val + r8Code r)] ∧
      ∃ w : Byte, (∀ k < 8, w.getLsbD k = if k = b.val then true else (s.readR8 r).getLsbD k) ∧
        exec i s = .next (s.writeR8 r w))

/-! ### Frames and whole-machine rules -/

/-- R5, R312: no meaning stops: every instruction completes in every state. -/
def Obligations.EveryInstructionCompletes : Prop :=
  ∀ (i : Instr) (s : State), ∃ t, exec i s = .next t

/-- Every byte of memory that an instruction's stores cannot be seen at reads as before; an instruction that stores nothing
leaves every byte. -/
def Obligations.MemoryFrame : Prop :=
  ∀ (i : Instr) (s t : State), exec i s = .next t →
    ∀ b : Word, (∀ w ∈ stores i s, ¬ s.seenBy w b) → t.busRead b = s.busRead b

/-- Every register that is not a destination of the instruction reads as before. -/
def Obligations.RegisterFrame : Prop :=
  ∀ (i : Instr) (s t : State) (r : Reg), exec i s = .next t →
    (∀ d, i.descriptor = some d → r ∉ destRegs d) → t.regs.get r = s.regs.get r

/-- R25: a flag is unchanged by every instruction outside its column. -/
def Obligations.FlagFrame : Prop :=
  ∀ (i : Instr) (s t : State), exec i s = .next t →
    ((∀ d, i.descriptor = some d → writesZ d = false) → t.flagZ = s.flagZ) ∧
    ((∀ d, i.descriptor = some d → writesN d = false) → t.flagN = s.flagN) ∧
    ((∀ d, i.descriptor = some d → writesH d = false) → t.flagH = s.flagH) ∧
    ((∀ d, i.descriptor = some d → writesC d = false) → t.flagC = s.flagC)

/-- R26, R30 to R38: SP and each piece of control state is unchanged by every instruction whose rule does not name it; IE, IF
and the boot flag change only through a store to 0xFFFF, 0xFF0F and 0xFF50; the parameters never change. -/
def Obligations.ControlStateFrame : Prop :=
  ∀ (i : Instr) (s t : State), exec i s = .next t →
    ((∀ d, i.descriptor = some d → writesSp d = false) → t.sp = s.sp) ∧
    ((∀ d, i.descriptor = some d → d ≠ .di ∧ d ≠ .ei ∧ d ≠ .reti) → t.ime = s.ime) ∧
    ((∀ d, i.descriptor = some d → d ≠ .di ∧ d ≠ .ei) → t.eiPending = s.eiPending) ∧
    ((∀ d, i.descriptor = some d → d ≠ .halt) → t.halted = s.halted ∧ t.haltBug = s.haltBug) ∧
    ((∀ d, i.descriptor = some d → d ≠ .stop) → t.stopped = s.stopped) ∧
    (i.descriptor ≠ none → t.fault = s.fault) ∧
    ((0xFFFF : Word) ∉ stores i s → t.ie = s.ie) ∧
    ((0xFF0F : Word) ∉ stores i s → t.intFlag = s.intFlag) ∧
    ((0xFF50 : Word) ∉ stores i s → t.bootMapped = s.bootMapped) ∧
    (t.refused = s.refused ∧ t.params = s.params ∧ t.report = s.report ∧ t.bootRom = s.bootRom ∧
      t.cart.image = s.cart.image ∧ t.vram.image = s.vram.image)

/-- R7, R40, R60: no step changes the parameters, the boot ROM or what the host has fixed of the two external owners; the
writes these receive are only ever added to. -/
def Obligations.StepNeverChangesWhatTheHostSupplies : Prop :=
  ∀ s t : State, step s = .next t →
    t.params = s.params ∧ t.bootRom = s.bootRom ∧ t.cart.image = s.cart.image ∧ t.vram.image = s.vram.image ∧
    s.cart.writes <:+ t.cart.writes ∧ s.vram.writes <:+ t.vram.writes

/-- R331, R332, R333: raising a request sets that IF bit only; the joypad setter changes what 0xFF00 reads only; the wake
clears `stopped` only. -/
def Obligations.HostMovesTouchOnlyTheirState : Prop :=
  ∀ s : State,
    (∀ src : Source, ∃ f : BitVec 5, (HostMove.raise src).apply s = { s with intFlag := f } ∧
      ∀ k < 5, f.getLsbD k = (s.intFlag.getLsbD k || k == src.bit)) ∧
    (∀ v : Byte, ((HostMove.joypad v).apply s).busRead 0xFF00 = v ∧
      (∀ b : Word, b ≠ 0xFF00 → ((HostMove.joypad v).apply s).busRead b = s.busRead b) ∧
      ∃ m, (HostMove.joypad v).apply s = { s with mem := m }) ∧
    (HostMove.wake.apply s = { s with stopped := false })

/-- The host's moves keep the invariant. -/
def Obligations.HostMovesKeepInvariant : Prop :=
  ∀ (m : HostMove) (s : State), s.Inv → (m.apply s).Inv

/-- R336 with R300: in a state in which a run has ended normally, a step changes nothing but the report, or, stopped, there is
no step; so the end state stands until a host move. A run ends in one state at most; a run that ends reaches no fault and no
refusal, before or after; and where no host move follows the end, every later state is the end state but for the report. That
`step` answers the fault `stopped` where there is no step is the model's choice (log entry 12), and so are a run as an endless
sequence of moves (log entry 21) and the end of a stopped run where no wake follows but other host moves may (log entry 22). -/
def Obligations.EndedStateStands : Prop :=
  (∀ s : State, s.Ended →
    (s.stopped = true → step s = .fault .stopped) ∧
    (s.stopped = false → step s = .next { s with report := some (.idle s.params.haltIdleCycles) })) ∧
  ∀ (launch : State) (moves : Nat → Move),
    (∀ t u, RunEndsIn launch moves t → RunEndsIn launch moves u → t = u) ∧
    (∀ t, RunEndsIn launch moves t → ¬ RunReachesTerminal launch moves) ∧
    (∀ n k, RunEndsAt launch moves n → NoHostMove moves n → n ≤ k →
      ∃ r, runState launch moves k = { runState launch moves n with report := r })
end

