-- ==== Sys2Proof/Laws/Memory.lean ====
section
/-! SUPPORT. The laws of the byte memories: reading after writing, and the canonical form kept by every operation. -/

namespace Sys2Proof.Machine

theorem Memory.find_put_same (a : Nat) (v : Byte) (m : List Host.Cell) : Memory.find a (Memory.put a v m) = some v := by
  induction m with
  | nil => simp [Memory.put, Memory.find]
  | cons c m ih =>
    unfold Memory.put
    split
    · simp [Memory.find]
    · split
      · simp [Memory.find]
      · rename_i h
        simp [Memory.find, Ne.symm h, ih]

theorem Memory.find_put_ne {a b : Nat} (v : Byte) (m : List Host.Cell) (h : b ≠ a) :
    Memory.find b (Memory.put a v m) = Memory.find b m := by
  induction m with
  | nil => simp [Memory.put, Memory.find, Ne.symm h]
  | cons c m ih =>
    unfold Memory.put
    split
    · simp [Memory.find, Ne.symm h]
    · split
      · rename_i _ he
        simp [Memory.find, ← he, Ne.symm h]
      · simp [Memory.find, ih]

theorem Memory.find_erase_same (a : Nat) (m : List Host.Cell) : Memory.find a (Memory.erase a m) = none := by
  induction m with
  | nil => rfl
  | cons c m ih =>
    unfold Memory.erase
    split
    · exact ih
    · rename_i h
      simp [Memory.find, h, ih]

theorem Memory.find_erase_ne {a b : Nat} (m : List Host.Cell) (h : b ≠ a) :
    Memory.find b (Memory.erase a m) = Memory.find b m := by
  induction m with
  | nil => rfl
  | cons c m ih =>
    unfold Memory.erase
    split
    · rename_i hc
      simp [Memory.find, hc, Ne.symm h, ih]
    · simp [Memory.find, ih]

/-- A read after a write to the same address gives the byte written, in every list. -/
@[simp] theorem Memory.read_write_same (m : List Host.Cell) (a : Nat) (v : Byte) :
    Memory.read (Memory.write m a v) a = v := by
  unfold Memory.write Memory.read
  split
  · rename_i h
    simp [Memory.find_erase_same, h]
  · simp [Memory.find_put_same]

/-- A write leaves every other address alone, in every list. -/
theorem Memory.read_write_ne (m : List Host.Cell) {a b : Nat} (v : Byte) (h : b ≠ a) :
    Memory.read (Memory.write m a v) b = Memory.read m b := by
  unfold Memory.write Memory.read
  split
  · simp [Memory.find_erase_ne _ h]
  · simp [Memory.find_put_ne _ _ h]

/-- What a list holds after a byte was listed. -/
theorem Memory.mem_put {a : Nat} {v : Byte} {m : List Host.Cell} {c : Host.Cell} (h : c ∈ Memory.put a v m) :
    c = (a, v) ∨ c ∈ m := by
  induction m with
  | nil => exact Or.inl (by simpa [Memory.put] using h)
  | cons d m ih =>
    unfold Memory.put at h
    split at h
    · simpa using h
    · split at h
      · rcases List.mem_cons.mp h with h | h
        · exact Or.inl h
        · exact Or.inr (List.mem_cons_of_mem _ h)
      · rcases List.mem_cons.mp h with h | h
        · exact Or.inr (h ▸ List.mem_cons_self)
        · rcases ih h with h | h
          · exact Or.inl h
          · exact Or.inr (List.mem_cons_of_mem _ h)

theorem Memory.mem_erase {a : Nat} {m : List Host.Cell} {c : Host.Cell} (h : c ∈ Memory.erase a m) : c ∈ m := by
  induction m with
  | nil => exact h
  | cons d m ih =>
    unfold Memory.erase at h
    split at h
    · exact List.mem_cons_of_mem _ (ih h)
    · rcases List.mem_cons.mp h with h | h
      · exact h ▸ List.mem_cons_self
      · exact List.mem_cons_of_mem _ (ih h)

/-- What a list holds after a write: what it held, and the byte written if it is listed. -/
theorem Memory.mem_write {a : Nat} {v : Byte} {m : List Host.Cell} {c : Host.Cell} (h : c ∈ Memory.write m a v) :
    (c = (a, v) ∧ v ≠ Memory.unlisted) ∨ c ∈ m := by
  unfold Memory.write at h
  split at h
  · exact Or.inr (Memory.mem_erase h)
  · rename_i hv
    exact (Memory.mem_put h).imp (fun h => ⟨h, hv⟩) id

theorem Memory.rising_put (a : Nat) (v : Byte) (m : List Host.Cell) (h : Memory.rising m = true) :
    Memory.rising (Memory.put a v m) = true := by
  induction m with
  | nil => rfl
  | cons c m ih =>
    simp only [Memory.rising, Bool.and_eq_true, List.all_eq_true, decide_eq_true_eq] at h
    unfold Memory.put
    split
    · rename_i hlt
      simp only [Memory.rising, Bool.and_eq_true, List.all_eq_true, decide_eq_true_eq]
      refine ⟨fun e he => ?_, h⟩
      rcases List.mem_cons.mp he with he | he
      · exact he ▸ hlt
      · exact Nat.lt_trans hlt (h.1 e he)
    · split
      · rename_i _ heq
        simp only [Memory.rising, Bool.and_eq_true, List.all_eq_true, decide_eq_true_eq]
        exact ⟨fun e he => heq ▸ h.1 e he, h.2⟩
      · simp only [Memory.rising, Bool.and_eq_true, List.all_eq_true, decide_eq_true_eq]
        refine ⟨fun e he => ?_, ih h.2⟩
        rcases Memory.mem_put he with he | he
        · subst he
          exact Nat.lt_of_le_of_ne (Nat.le_of_not_lt ‹_›) (Ne.symm ‹_›)
        · exact h.1 e he

theorem Memory.rising_erase (a : Nat) (m : List Host.Cell) (h : Memory.rising m = true) :
    Memory.rising (Memory.erase a m) = true := by
  induction m with
  | nil => rfl
  | cons c m ih =>
    simp only [Memory.rising, Bool.and_eq_true, List.all_eq_true, decide_eq_true_eq] at h
    unfold Memory.erase
    split
    · exact ih h.2
    · simp only [Memory.rising, Bool.and_eq_true, List.all_eq_true, decide_eq_true_eq]
      exact ⟨fun e he => h.1 e (Memory.mem_erase he), ih h.2⟩

/-- Every write keeps the canonical form. -/
theorem Memory.wf_write (m : List Host.Cell) (a : Nat) (v : Byte) (h : Memory.wf m = true) :
    Memory.wf (Memory.write m a v) = true := by
  simp only [Memory.wf, Bool.and_eq_true, List.all_eq_true, bne_iff_ne] at h ⊢
  refine ⟨?_, fun e he => ?_⟩
  · unfold Memory.write
    split
    · exact Memory.rising_erase a m h.1
    · exact Memory.rising_put a v m h.1
  · rcases Memory.mem_write he with ⟨he, hv⟩ | he
    · exact he ▸ hv
    · exact h.2 e he

theorem Memory.put_put (a : Nat) (v : Byte) (m : List Host.Cell) :
    Memory.put a v (Memory.put a v m) = Memory.put a v m := by
  induction m with
  | nil => simp [Memory.put]
  | cons c m ih =>
    by_cases h1 : a < c.1
    · simp [Memory.put, h1]
    · by_cases h2 : a = c.1
      · simp [Memory.put, h2]
      · simp [Memory.put, h1, h2, ih]

theorem Memory.erase_erase (a : Nat) (m : List Host.Cell) : Memory.erase a (Memory.erase a m) = Memory.erase a m := by
  induction m with
  | nil => rfl
  | cons c m ih => by_cases h : c.1 = a <;> simp [Memory.erase, h, ih]

/-- Writing the same byte again changes nothing (R67). -/
@[simp] theorem Memory.write_write (m : List Host.Cell) (a : Nat) (v : Byte) :
    Memory.write (Memory.write m a v) a v = Memory.write m a v := by
  unfold Memory.write
  split
  · exact Memory.erase_erase a m
  · exact Memory.put_put a v m

theorem Memory.wf_nil : Memory.wf [] = true := rfl

end Sys2Proof.Machine
end

