-- ==== Sys2Proof/Laws/State.lean ====
section
/-! SUPPORT. What each plain update of the state leaves alone, field by field, and what it sets. -/

namespace Sys2Proof.Machine

@[simp] theorem State.setReg_sp (s : State) (x : Reg) (v : Byte) : (s.setReg x v).sp = s.sp := rfl
@[simp] theorem State.setReg_pc (s : State) (x : Reg) (v : Byte) : (s.setReg x v).pc = s.pc := rfl
@[simp] theorem State.setReg_ime (s : State) (x : Reg) (v : Byte) : (s.setReg x v).ime = s.ime := rfl
@[simp] theorem State.setReg_ie (s : State) (x : Reg) (v : Byte) : (s.setReg x v).ie = s.ie := rfl
@[simp] theorem State.setReg_intFlag (s : State) (x : Reg) (v : Byte) : (s.setReg x v).intFlag = s.intFlag := rfl
@[simp] theorem State.setReg_eiPending (s : State) (x : Reg) (v : Byte) : (s.setReg x v).eiPending = s.eiPending := rfl
@[simp] theorem State.setReg_halted (s : State) (x : Reg) (v : Byte) : (s.setReg x v).halted = s.halted := rfl
@[simp] theorem State.setReg_stopped (s : State) (x : Reg) (v : Byte) : (s.setReg x v).stopped = s.stopped := rfl
@[simp] theorem State.setReg_haltBug (s : State) (x : Reg) (v : Byte) : (s.setReg x v).haltBug = s.haltBug := rfl
@[simp] theorem State.setReg_bootMapped (s : State) (x : Reg) (v : Byte) : (s.setReg x v).bootMapped = s.bootMapped := rfl
@[simp] theorem State.setReg_mem (s : State) (x : Reg) (v : Byte) : (s.setReg x v).mem = s.mem := rfl
@[simp] theorem State.setReg_fault (s : State) (x : Reg) (v : Byte) : (s.setReg x v).fault = s.fault := rfl
@[simp] theorem State.setReg_refused (s : State) (x : Reg) (v : Byte) : (s.setReg x v).refused = s.refused := rfl
@[simp] theorem State.setReg_bootRom (s : State) (x : Reg) (v : Byte) : (s.setReg x v).bootRom = s.bootRom := rfl
@[simp] theorem State.setReg_cart (s : State) (x : Reg) (v : Byte) : (s.setReg x v).cart = s.cart := rfl
@[simp] theorem State.setReg_vram (s : State) (x : Reg) (v : Byte) : (s.setReg x v).vram = s.vram := rfl
@[simp] theorem State.setReg_params (s : State) (x : Reg) (v : Byte) : (s.setReg x v).params = s.params := rfl
@[simp] theorem State.setReg_taken (s : State) (x : Reg) (v : Byte) : (s.setReg x v).taken = s.taken := rfl
@[simp] theorem State.setReg_report (s : State) (x : Reg) (v : Byte) : (s.setReg x v).report = s.report := rfl

@[simp] theorem State.setPair_sp (s : State) (p : Pair) (v : Word) : (s.setPair p v).sp = s.sp := rfl
@[simp] theorem State.setPair_pc (s : State) (p : Pair) (v : Word) : (s.setPair p v).pc = s.pc := rfl
@[simp] theorem State.setPair_ime (s : State) (p : Pair) (v : Word) : (s.setPair p v).ime = s.ime := rfl
@[simp] theorem State.setPair_ie (s : State) (p : Pair) (v : Word) : (s.setPair p v).ie = s.ie := rfl
@[simp] theorem State.setPair_intFlag (s : State) (p : Pair) (v : Word) : (s.setPair p v).intFlag = s.intFlag := rfl
@[simp] theorem State.setPair_eiPending (s : State) (p : Pair) (v : Word) : (s.setPair p v).eiPending = s.eiPending := rfl
@[simp] theorem State.setPair_halted (s : State) (p : Pair) (v : Word) : (s.setPair p v).halted = s.halted := rfl
@[simp] theorem State.setPair_stopped (s : State) (p : Pair) (v : Word) : (s.setPair p v).stopped = s.stopped := rfl
@[simp] theorem State.setPair_haltBug (s : State) (p : Pair) (v : Word) : (s.setPair p v).haltBug = s.haltBug := rfl
@[simp] theorem State.setPair_bootMapped (s : State) (p : Pair) (v : Word) : (s.setPair p v).bootMapped = s.bootMapped := rfl
@[simp] theorem State.setPair_mem (s : State) (p : Pair) (v : Word) : (s.setPair p v).mem = s.mem := rfl
@[simp] theorem State.setPair_fault (s : State) (p : Pair) (v : Word) : (s.setPair p v).fault = s.fault := rfl
@[simp] theorem State.setPair_refused (s : State) (p : Pair) (v : Word) : (s.setPair p v).refused = s.refused := rfl
@[simp] theorem State.setPair_bootRom (s : State) (p : Pair) (v : Word) : (s.setPair p v).bootRom = s.bootRom := rfl
@[simp] theorem State.setPair_cart (s : State) (p : Pair) (v : Word) : (s.setPair p v).cart = s.cart := rfl
@[simp] theorem State.setPair_vram (s : State) (p : Pair) (v : Word) : (s.setPair p v).vram = s.vram := rfl
@[simp] theorem State.setPair_params (s : State) (p : Pair) (v : Word) : (s.setPair p v).params = s.params := rfl
@[simp] theorem State.setPair_taken (s : State) (p : Pair) (v : Word) : (s.setPair p v).taken = s.taken := rfl
@[simp] theorem State.setPair_report (s : State) (p : Pair) (v : Word) : (s.setPair p v).report = s.report := rfl

@[simp] theorem State.setFlags_sp (s : State) (z n h c : Bool) : (s.setFlags z n h c).sp = s.sp := rfl
@[simp] theorem State.setFlags_pc (s : State) (z n h c : Bool) : (s.setFlags z n h c).pc = s.pc := rfl
@[simp] theorem State.setFlags_ime (s : State) (z n h c : Bool) : (s.setFlags z n h c).ime = s.ime := rfl
@[simp] theorem State.setFlags_ie (s : State) (z n h c : Bool) : (s.setFlags z n h c).ie = s.ie := rfl
@[simp] theorem State.setFlags_intFlag (s : State) (z n h c : Bool) : (s.setFlags z n h c).intFlag = s.intFlag := rfl
@[simp] theorem State.setFlags_eiPending (s : State) (z n h c : Bool) : (s.setFlags z n h c).eiPending = s.eiPending := rfl
@[simp] theorem State.setFlags_halted (s : State) (z n h c : Bool) : (s.setFlags z n h c).halted = s.halted := rfl
@[simp] theorem State.setFlags_stopped (s : State) (z n h c : Bool) : (s.setFlags z n h c).stopped = s.stopped := rfl
@[simp] theorem State.setFlags_haltBug (s : State) (z n h c : Bool) : (s.setFlags z n h c).haltBug = s.haltBug := rfl
@[simp] theorem State.setFlags_bootMapped (s : State) (z n h c : Bool) : (s.setFlags z n h c).bootMapped = s.bootMapped := rfl
@[simp] theorem State.setFlags_mem (s : State) (z n h c : Bool) : (s.setFlags z n h c).mem = s.mem := rfl
@[simp] theorem State.setFlags_fault (s : State) (z n h c : Bool) : (s.setFlags z n h c).fault = s.fault := rfl
@[simp] theorem State.setFlags_refused (s : State) (z n h c : Bool) : (s.setFlags z n h c).refused = s.refused := rfl
@[simp] theorem State.setFlags_bootRom (s : State) (z n h c : Bool) : (s.setFlags z n h c).bootRom = s.bootRom := rfl
@[simp] theorem State.setFlags_cart (s : State) (z n h c : Bool) : (s.setFlags z n h c).cart = s.cart := rfl
@[simp] theorem State.setFlags_vram (s : State) (z n h c : Bool) : (s.setFlags z n h c).vram = s.vram := rfl
@[simp] theorem State.setFlags_params (s : State) (z n h c : Bool) : (s.setFlags z n h c).params = s.params := rfl
@[simp] theorem State.setFlags_taken (s : State) (z n h c : Bool) : (s.setFlags z n h c).taken = s.taken := rfl
@[simp] theorem State.setFlags_report (s : State) (z n h c : Bool) : (s.setFlags z n h c).report = s.report := rfl

@[simp] theorem State.memWrite_regs (s : State) (a : Word) (v : Byte) : (s.memWrite a v).regs = s.regs := rfl
@[simp] theorem State.memWrite_sp (s : State) (a : Word) (v : Byte) : (s.memWrite a v).sp = s.sp := rfl
@[simp] theorem State.memWrite_pc (s : State) (a : Word) (v : Byte) : (s.memWrite a v).pc = s.pc := rfl
@[simp] theorem State.memWrite_ime (s : State) (a : Word) (v : Byte) : (s.memWrite a v).ime = s.ime := rfl
@[simp] theorem State.memWrite_ie (s : State) (a : Word) (v : Byte) : (s.memWrite a v).ie = s.ie := rfl
@[simp] theorem State.memWrite_intFlag (s : State) (a : Word) (v : Byte) : (s.memWrite a v).intFlag = s.intFlag := rfl
@[simp] theorem State.memWrite_eiPending (s : State) (a : Word) (v : Byte) : (s.memWrite a v).eiPending = s.eiPending := rfl
@[simp] theorem State.memWrite_halted (s : State) (a : Word) (v : Byte) : (s.memWrite a v).halted = s.halted := rfl
@[simp] theorem State.memWrite_stopped (s : State) (a : Word) (v : Byte) : (s.memWrite a v).stopped = s.stopped := rfl
@[simp] theorem State.memWrite_haltBug (s : State) (a : Word) (v : Byte) : (s.memWrite a v).haltBug = s.haltBug := rfl
@[simp] theorem State.memWrite_bootMapped (s : State) (a : Word) (v : Byte) : (s.memWrite a v).bootMapped = s.bootMapped := rfl
@[simp] theorem State.memWrite_fault (s : State) (a : Word) (v : Byte) : (s.memWrite a v).fault = s.fault := rfl
@[simp] theorem State.memWrite_refused (s : State) (a : Word) (v : Byte) : (s.memWrite a v).refused = s.refused := rfl
@[simp] theorem State.memWrite_bootRom (s : State) (a : Word) (v : Byte) : (s.memWrite a v).bootRom = s.bootRom := rfl
@[simp] theorem State.memWrite_cart (s : State) (a : Word) (v : Byte) : (s.memWrite a v).cart = s.cart := rfl
@[simp] theorem State.memWrite_vram (s : State) (a : Word) (v : Byte) : (s.memWrite a v).vram = s.vram := rfl
@[simp] theorem State.memWrite_params (s : State) (a : Word) (v : Byte) : (s.memWrite a v).params = s.params := rfl
@[simp] theorem State.memWrite_taken (s : State) (a : Word) (v : Byte) : (s.memWrite a v).taken = s.taken := rfl
@[simp] theorem State.memWrite_report (s : State) (a : Word) (v : Byte) : (s.memWrite a v).report = s.report := rfl

@[simp] theorem State.jump_regs (s : State) (a : Word) : (s.jump a).regs = s.regs := rfl
@[simp] theorem State.jump_sp (s : State) (a : Word) : (s.jump a).sp = s.sp := rfl
@[simp] theorem State.jump_ime (s : State) (a : Word) : (s.jump a).ime = s.ime := rfl
@[simp] theorem State.jump_ie (s : State) (a : Word) : (s.jump a).ie = s.ie := rfl
@[simp] theorem State.jump_intFlag (s : State) (a : Word) : (s.jump a).intFlag = s.intFlag := rfl
@[simp] theorem State.jump_eiPending (s : State) (a : Word) : (s.jump a).eiPending = s.eiPending := rfl
@[simp] theorem State.jump_halted (s : State) (a : Word) : (s.jump a).halted = s.halted := rfl
@[simp] theorem State.jump_stopped (s : State) (a : Word) : (s.jump a).stopped = s.stopped := rfl
@[simp] theorem State.jump_haltBug (s : State) (a : Word) : (s.jump a).haltBug = s.haltBug := rfl
@[simp] theorem State.jump_bootMapped (s : State) (a : Word) : (s.jump a).bootMapped = s.bootMapped := rfl
@[simp] theorem State.jump_mem (s : State) (a : Word) : (s.jump a).mem = s.mem := rfl
@[simp] theorem State.jump_fault (s : State) (a : Word) : (s.jump a).fault = s.fault := rfl
@[simp] theorem State.jump_refused (s : State) (a : Word) : (s.jump a).refused = s.refused := rfl
@[simp] theorem State.jump_bootRom (s : State) (a : Word) : (s.jump a).bootRom = s.bootRom := rfl
@[simp] theorem State.jump_cart (s : State) (a : Word) : (s.jump a).cart = s.cart := rfl
@[simp] theorem State.jump_vram (s : State) (a : Word) : (s.jump a).vram = s.vram := rfl
@[simp] theorem State.jump_params (s : State) (a : Word) : (s.jump a).params = s.params := rfl
@[simp] theorem State.jump_taken (s : State) (a : Word) : (s.jump a).taken = s.taken := rfl
@[simp] theorem State.jump_report (s : State) (a : Word) : (s.jump a).report = s.report := rfl

@[simp] theorem State.setSp_regs (s : State) (v : Word) : (s.setSp v).regs = s.regs := rfl
@[simp] theorem State.setSp_pc (s : State) (v : Word) : (s.setSp v).pc = s.pc := rfl
@[simp] theorem State.setSp_ime (s : State) (v : Word) : (s.setSp v).ime = s.ime := rfl
@[simp] theorem State.setSp_ie (s : State) (v : Word) : (s.setSp v).ie = s.ie := rfl
@[simp] theorem State.setSp_intFlag (s : State) (v : Word) : (s.setSp v).intFlag = s.intFlag := rfl
@[simp] theorem State.setSp_eiPending (s : State) (v : Word) : (s.setSp v).eiPending = s.eiPending := rfl
@[simp] theorem State.setSp_halted (s : State) (v : Word) : (s.setSp v).halted = s.halted := rfl
@[simp] theorem State.setSp_stopped (s : State) (v : Word) : (s.setSp v).stopped = s.stopped := rfl
@[simp] theorem State.setSp_haltBug (s : State) (v : Word) : (s.setSp v).haltBug = s.haltBug := rfl
@[simp] theorem State.setSp_bootMapped (s : State) (v : Word) : (s.setSp v).bootMapped = s.bootMapped := rfl
@[simp] theorem State.setSp_mem (s : State) (v : Word) : (s.setSp v).mem = s.mem := rfl
@[simp] theorem State.setSp_fault (s : State) (v : Word) : (s.setSp v).fault = s.fault := rfl
@[simp] theorem State.setSp_refused (s : State) (v : Word) : (s.setSp v).refused = s.refused := rfl
@[simp] theorem State.setSp_bootRom (s : State) (v : Word) : (s.setSp v).bootRom = s.bootRom := rfl
@[simp] theorem State.setSp_cart (s : State) (v : Word) : (s.setSp v).cart = s.cart := rfl
@[simp] theorem State.setSp_vram (s : State) (v : Word) : (s.setSp v).vram = s.vram := rfl
@[simp] theorem State.setSp_params (s : State) (v : Word) : (s.setSp v).params = s.params := rfl
@[simp] theorem State.setSp_taken (s : State) (v : Word) : (s.setSp v).taken = s.taken := rfl
@[simp] theorem State.setSp_report (s : State) (v : Word) : (s.setSp v).report = s.report := rfl

@[simp] theorem State.decodeFail_regs (s : State) (op : Byte) : (s.decodeFail op).regs = s.regs := rfl
@[simp] theorem State.decodeFail_sp (s : State) (op : Byte) : (s.decodeFail op).sp = s.sp := rfl
@[simp] theorem State.decodeFail_pc (s : State) (op : Byte) : (s.decodeFail op).pc = s.pc := rfl
@[simp] theorem State.decodeFail_ime (s : State) (op : Byte) : (s.decodeFail op).ime = s.ime := rfl
@[simp] theorem State.decodeFail_ie (s : State) (op : Byte) : (s.decodeFail op).ie = s.ie := rfl
@[simp] theorem State.decodeFail_intFlag (s : State) (op : Byte) : (s.decodeFail op).intFlag = s.intFlag := rfl
@[simp] theorem State.decodeFail_eiPending (s : State) (op : Byte) : (s.decodeFail op).eiPending = s.eiPending := rfl
@[simp] theorem State.decodeFail_halted (s : State) (op : Byte) : (s.decodeFail op).halted = s.halted := rfl
@[simp] theorem State.decodeFail_stopped (s : State) (op : Byte) : (s.decodeFail op).stopped = s.stopped := rfl
@[simp] theorem State.decodeFail_haltBug (s : State) (op : Byte) : (s.decodeFail op).haltBug = s.haltBug := rfl
@[simp] theorem State.decodeFail_bootMapped (s : State) (op : Byte) : (s.decodeFail op).bootMapped = s.bootMapped := rfl
@[simp] theorem State.decodeFail_mem (s : State) (op : Byte) : (s.decodeFail op).mem = s.mem := rfl
@[simp] theorem State.decodeFail_refused (s : State) (op : Byte) : (s.decodeFail op).refused = s.refused := rfl
@[simp] theorem State.decodeFail_bootRom (s : State) (op : Byte) : (s.decodeFail op).bootRom = s.bootRom := rfl
@[simp] theorem State.decodeFail_cart (s : State) (op : Byte) : (s.decodeFail op).cart = s.cart := rfl
@[simp] theorem State.decodeFail_vram (s : State) (op : Byte) : (s.decodeFail op).vram = s.vram := rfl
@[simp] theorem State.decodeFail_params (s : State) (op : Byte) : (s.decodeFail op).params = s.params := rfl
@[simp] theorem State.decodeFail_taken (s : State) (op : Byte) : (s.decodeFail op).taken = s.taken := rfl
@[simp] theorem State.decodeFail_report (s : State) (op : Byte) : (s.decodeFail op).report = s.report := rfl

@[simp] theorem State.setReg_regs (s : State) (x : Reg) (v : Byte) : (s.setReg x v).regs = s.regs.put x v := rfl
@[simp] theorem State.memWrite_mem (s : State) (a : Word) (v : Byte) :
    (s.memWrite a v).mem = Memory.write s.mem a.toNat v := rfl
@[simp] theorem State.setSp_sp (s : State) (v : Word) : (s.setSp v).sp = v := rfl
@[simp] theorem State.jump_pc (s : State) (a : Word) : (s.jump a).pc = a := rfl
@[simp] theorem State.setFlags_regs (s : State) (z n h c : Bool) :
    (s.setFlags z n h c).regs = { s.regs with f := packFlags z n h c &&& 0xF0 } := rfl
@[simp] theorem State.setPair_regs (s : State) (p : Pair) (v : Word) :
    (s.setPair p v).regs = (s.regs.put p.hi (hiByte v)).put p.lo (loByte v) := rfl

/-- Reading a register after writing it: the byte, F masked (R22). -/
theorem Regs.get_put_same (r : Regs) (x : Reg) (v : Byte) :
    (r.put x v).get x = if x = .f then v &&& 0xF0 else v := by
  cases x <;> simp [Regs.put, Regs.get, BitVec.and_assoc]

/-- Writing a register leaves the others. -/
theorem Regs.get_put_ne (r : Regs) {x y : Reg} (v : Byte) (h : y ≠ x) : (r.put x v).get y = r.get y := by
  cases x <;> cases y <;> first | rfl | exact absurd rfl h

/-- The packed flags have a clear low nibble, so masking them changes nothing. -/
@[simp] theorem packFlags_masked (z n h c : Bool) : packFlags z n h c &&& 240#8 = packFlags z n h c := by
  cases z <;> cases n <;> cases h <;> cases c <;> decide

@[simp] theorem packFlags_low (z n h c : Bool) : packFlags z n h c &&& 15#8 = 0#8 := by
  cases z <;> cases n <;> cases h <;> cases c <;> decide

theorem packFlags_bits (z n h c : Bool) :
    (packFlags z n h c).getLsbD 7 = z ∧ (packFlags z n h c).getLsbD 6 = n ∧
    (packFlags z n h c).getLsbD 5 = h ∧ (packFlags z n h c).getLsbD 4 = c := by
  cases z <;> cases n <;> cases h <;> cases c <;> decide

/-- Writing a register keeps F's low nibble clear (R22). -/
theorem Regs.put_clean (r : Regs) (x : Reg) (v : Byte) (h : r.f &&& 0x0F = 0) : (r.put x v).f &&& 0x0F = 0 := by
  cases x <;> simp_all [Regs.put, BitVec.and_assoc]

theorem State.setFlags_eq (s : State) (z n h c : Bool) :
    s.setFlags z n h c = { s with regs := { s.regs with f := packFlags z n h c } } := by
  simp [State.setFlags, State.setReg, Regs.put]

end Sys2Proof.Machine
end

