-- ==== Sys2Proof/Laws/Bus.lean ====
section
/-! SUPPORT. The bus and the stack: everything a bus write can do, what it leaves alone, and the push and pop as single
updates. -/

namespace Sys2Proof.Machine

/-- Everything a bus write can do: six fields may change, nothing else. -/
theorem State.busWrite_shape (s : State) (a : Word) (v : Byte) :
    s.busWrite a v =
      { s with
        cart := (s.busWrite a v).cart
        vram := (s.busWrite a v).vram
        mem := (s.busWrite a v).mem
        ie := (s.busWrite a v).ie
        intFlag := (s.busWrite a v).intFlag
        bootMapped := (s.busWrite a v).bootMapped } := by
  unfold State.busWrite
  cases ownerOf false a <;> first | rfl | (dsimp only; split <;> rfl)

@[simp] theorem State.busWrite_regs (s : State) (a : Word) (v : Byte) : (s.busWrite a v).regs = s.regs := by
  rw [State.busWrite_shape]
@[simp] theorem State.busWrite_sp (s : State) (a : Word) (v : Byte) : (s.busWrite a v).sp = s.sp := by
  rw [State.busWrite_shape]
@[simp] theorem State.busWrite_pc (s : State) (a : Word) (v : Byte) : (s.busWrite a v).pc = s.pc := by
  rw [State.busWrite_shape]
@[simp] theorem State.busWrite_ime (s : State) (a : Word) (v : Byte) : (s.busWrite a v).ime = s.ime := by
  rw [State.busWrite_shape]
@[simp] theorem State.busWrite_eiPending (s : State) (a : Word) (v : Byte) :
    (s.busWrite a v).eiPending = s.eiPending := by
  rw [State.busWrite_shape]
@[simp] theorem State.busWrite_halted (s : State) (a : Word) (v : Byte) : (s.busWrite a v).halted = s.halted := by
  rw [State.busWrite_shape]
@[simp] theorem State.busWrite_stopped (s : State) (a : Word) (v : Byte) : (s.busWrite a v).stopped = s.stopped := by
  rw [State.busWrite_shape]
@[simp] theorem State.busWrite_haltBug (s : State) (a : Word) (v : Byte) : (s.busWrite a v).haltBug = s.haltBug := by
  rw [State.busWrite_shape]
@[simp] theorem State.busWrite_fault (s : State) (a : Word) (v : Byte) : (s.busWrite a v).fault = s.fault := by
  rw [State.busWrite_shape]
@[simp] theorem State.busWrite_refused (s : State) (a : Word) (v : Byte) : (s.busWrite a v).refused = s.refused := by
  rw [State.busWrite_shape]
@[simp] theorem State.busWrite_bootRom (s : State) (a : Word) (v : Byte) : (s.busWrite a v).bootRom = s.bootRom := by
  rw [State.busWrite_shape]
@[simp] theorem State.busWrite_params (s : State) (a : Word) (v : Byte) : (s.busWrite a v).params = s.params := by
  rw [State.busWrite_shape]
@[simp] theorem State.busWrite_taken (s : State) (a : Word) (v : Byte) : (s.busWrite a v).taken = s.taken := by
  rw [State.busWrite_shape]
@[simp] theorem State.busWrite_report (s : State) (a : Word) (v : Byte) : (s.busWrite a v).report = s.report := by
  rw [State.busWrite_shape]

/-- The address map (R51) as ranges of numbers: the owner of every address, each with its range. -/
theorem ownerOf_ranges (m : Bool) (a : Word) :
    (ownerOf m a = .bootRom ∧ m = true ∧ a.toNat ≤ 0x00FF) ∨
    (ownerOf m a = .cart ∧ (m = false ∨ 0x0100 ≤ a.toNat) ∧
      (a.toNat ≤ 0x7FFF ∨ (0xA000 ≤ a.toNat ∧ a.toNat ≤ 0xBFFF))) ∨
    (ownerOf m a = .vram ∧ 0x8000 ≤ a.toNat ∧ a.toNat ≤ 0x9FFF) ∨
    (ownerOf m a = .wram ∧ 0xC000 ≤ a.toNat ∧ a.toNat ≤ 0xDFFF) ∨
    (ownerOf m a = .echo ∧ 0xE000 ≤ a.toNat ∧ a.toNat ≤ 0xFDFF) ∨
    (ownerOf m a = .oam ∧ 0xFE00 ≤ a.toNat ∧ a.toNat ≤ 0xFEFF) ∨
    (ownerOf m a = .intFlag ∧ a.toNat = 0xFF0F) ∨
    (ownerOf m a = .io ∧ 0xFF00 ≤ a.toNat ∧ a.toNat ≤ 0xFF7F ∧ a.toNat ≠ 0xFF0F) ∨
    (ownerOf m a = .hram ∧ 0xFF80 ≤ a.toNat ∧ a.toNat ≤ 0xFFFE) ∨
    (ownerOf m a = .intEnable ∧ a.toNat = 0xFFFF) := by
  have le (x y : Word) : (x ≤ y) = (x.toNat ≤ y.toNat) := rfl
  have hlt := a.isLt
  unfold ownerOf
  simp only [le, ← BitVec.toNat_inj, BitVec.toNat_ofNat, BitVec.ofNat_eq_ofNat, Nat.reducePow, Nat.reduceMod]
  by_cases h0 : m = true ∧ a.toNat ≤ 255
  · exact .inl ⟨if_pos h0, h0⟩
  rw [if_neg h0]
  by_cases h1 : a.toNat ≤ 32767
  · exact .inr (.inl ⟨if_pos h1, by cases m <;> simp_all <;> omega, .inl h1⟩)
  rw [if_neg h1]
  by_cases h2 : a.toNat ≤ 40959
  · exact .inr (.inr (.inl ⟨if_pos h2, by omega, h2⟩))
  rw [if_neg h2]
  by_cases h3 : a.toNat ≤ 49151
  · exact .inr (.inl ⟨if_pos h3, .inr (by omega), .inr ⟨by omega, h3⟩⟩)
  rw [if_neg h3]
  by_cases h4 : a.toNat ≤ 57343
  · exact .inr (.inr (.inr (.inl ⟨if_pos h4, by omega, h4⟩)))
  rw [if_neg h4]
  by_cases h5 : a.toNat ≤ 65023
  · exact .inr (.inr (.inr (.inr (.inl ⟨if_pos h5, by omega, h5⟩))))
  rw [if_neg h5]
  by_cases h6 : a.toNat ≤ 65279
  · exact .inr (.inr (.inr (.inr (.inr (.inl ⟨if_pos h6, by omega, h6⟩)))))
  rw [if_neg h6]
  by_cases h7 : a.toNat = 65295
  · exact .inr (.inr (.inr (.inr (.inr (.inr (.inl ⟨if_pos h7, h7⟩))))))
  rw [if_neg h7]
  by_cases h8 : a.toNat ≤ 65407
  · exact .inr (.inr (.inr (.inr (.inr (.inr (.inr (.inl ⟨if_pos h8, by omega, h8, h7⟩)))))))
  rw [if_neg h8]
  by_cases h9 : a.toNat ≤ 65534
  · exact .inr (.inr (.inr (.inr (.inr (.inr (.inr (.inr (.inl ⟨if_pos h9, by omega, h9⟩))))))))
  · exact .inr (.inr (.inr (.inr (.inr (.inr (.inr (.inr (.inr ⟨if_neg h9, by omega⟩))))))))

/-- What a bus write does to the bus-owned storage: nothing, or one byte written at an address of its regions (R39, R53). -/
theorem State.busWrite_mem (s : State) (a : Word) (v : Byte) :
    (s.busWrite a v).mem = s.mem ∨
    ∃ k : Word, (0xC000 ≤ k.toNat ∧ k.toNat ≤ 0xFFFE ∧ k.toNat ≠ 0xFF0F) ∧
      (s.busWrite a v).mem = Memory.write s.mem k.toNat v := by
  unfold State.busWrite
  rcases ownerOf_ranges false a with h | h | h | h | h | h | h | h | h | h <;> rw [h.1] <;> dsimp only
  · exact Or.inl rfl
  · exact Or.inl rfl
  · exact Or.inl rfl
  · exact Or.inr ⟨a, by omega, rfl⟩
  · refine Or.inr ⟨echoAddr s.params.echoMode a, ?_, rfl⟩
    unfold echoAddr
    split <;> bv_omega
  · exact Or.inr ⟨a, by omega, rfl⟩
  · exact Or.inl rfl
  · refine Or.inr ⟨a, by omega, ?_⟩
    split <;> rfl
  · exact Or.inr ⟨a, by omega, rfl⟩
  · exact Or.inl rfl

/-- A bus write never maps the boot ROM, and unmaps it only at 0xFF50 (R64). -/
theorem State.busWrite_bootMapped (s : State) (a : Word) (v : Byte) :
    (s.busWrite a v).bootMapped = (s.bootMapped && decide (a ≠ 0xFF50)) := by
  by_cases h : a = 0xFF50
  · subst h
    simp [State.busWrite, ownerOf]
  · have h' : decide (a ≠ 0xFF50) = true := decide_eq_true h
    rw [h', Bool.and_true]
    unfold State.busWrite
    cases ownerOf false a <;> first | rfl | (dsimp only; rw [if_neg h]; rfl)

/-- Everything a write to the video owner can do: nothing, where it repeats the newest write (R67), or one write received. -/
theorem External.vramWrite_cases (x : External) (off : Word) (v : Byte) :
    (x.writes.head? = some (off.toNat, v) ∧ x.vramWrite off v = x) ∨
    (x.writes.head? ≠ some (off.toNat, v) ∧ x.vramWrite off v = { x with writes := (off.toNat, v) :: x.writes }) := by
  by_cases h : x.writes.head? = some (off.toNat, v)
  · exact .inl ⟨h, if_pos h⟩
  · exact .inr ⟨h, if_neg h⟩

@[simp] theorem External.vramWrite_image (x : External) (off : Word) (v : Byte) : (x.vramWrite off v).image = x.image := by
  rcases x.vramWrite_cases off v with h | h <;> rw [h.2]

@[simp] theorem External.cartWrite_image (x : External) (a : Word) (v : Byte) : (x.cartWrite a v).image = x.image := rfl

/-- The newest write received is the one just made. -/
@[simp] theorem External.vramWrite_head (x : External) (off : Word) (v : Byte) :
    (x.vramWrite off v).writes.head? = some (off.toNat, v) := by
  rcases x.vramWrite_cases off v with h | h <;> rw [h.2]
  · exact h.1
  · rfl

/-- Repeating a write to the video owner leaves the same state (R67). -/
@[simp] theorem External.vramWrite_repeat (x : External) (off : Word) (v : Byte) :
    (x.vramWrite off v).vramWrite off v = x.vramWrite off v := if_pos (x.vramWrite_head off v)

/-- The writes an owner has received are only ever added to. -/
theorem External.vramWrite_suffix (x : External) (off : Word) (v : Byte) : x.writes <:+ (x.vramWrite off v).writes := by
  rcases x.vramWrite_cases off v with ⟨_, h⟩ | ⟨_, h⟩
  · exact (congrArg (fun y : External => x.writes <:+ y.writes) h).mpr (List.suffix_refl _)
  · exact (congrArg (fun y : External => x.writes <:+ y.writes) h).mpr (List.suffix_cons _ _)

/-- What the host has fixed of the external owners no bus write changes (R58, R59). -/
@[simp] theorem State.busWrite_cart_image (s : State) (a : Word) (v : Byte) :
    (s.busWrite a v).cart.image = s.cart.image := by
  unfold State.busWrite
  cases ownerOf false a <;> first | rfl | (dsimp only; split <;> rfl)

@[simp] theorem State.busWrite_vram_image (s : State) (a : Word) (v : Byte) :
    (s.busWrite a v).vram.image = s.vram.image := by
  unfold State.busWrite
  cases ownerOf false a <;> first | rfl | exact External.vramWrite_image _ _ _ | (dsimp only; split <;> rfl)

/-- A bus write leaves SP out of account. -/
theorem State.busWrite_setSp (s : State) (x : Word) (a : Word) (v : Byte) :
    (s.setSp x).busWrite a v = (s.busWrite a v).setSp x := by
  unfold State.busWrite
  cases ownerOf false a <;> first | rfl | (dsimp only; split <;> rfl)

/-- A bus read leaves SP out of account. -/
@[simp] theorem State.busRead_setSp (s : State) (x : Word) (a : Word) : (s.setSp x).busRead a = s.busRead a := rfl

/-- The push as one update (R200). -/
theorem State.push16_eq (s : State) (v : Word) :
    s.push16 v =
      ((s.busWrite (s.sp - 1) (hiByte v)).busWrite (s.sp - 2) (loByte v)).setSp (s.sp - 2) := by
  have h : s.sp - 1 - 1 = s.sp - 2 := by bv_omega
  simp only [State.push16, State.busWrite_setSp, State.setSp_sp, h]
  rfl

/-- The pop as one update (R201). -/
theorem State.pop16_eq (s : State) :
    s.pop16 = (joinBytes (s.busRead (s.sp + 1)) (s.busRead s.sp), s.setSp (s.sp + 2)) := by
  have h : s.sp + 1 + 1 = s.sp + 2 := by bv_omega
  simp only [State.pop16, State.busRead_setSp, State.setSp_sp, h]
  rfl

/-- Everything a write through a selector can do: a register, or one bus write at HL. -/
theorem State.writeR8_cases (s : State) (x : R8) (v : Byte) :
    (x = .hlInd ∧ s.writeR8 x v = s.busWrite s.hl v) ∨
    (x ≠ .hlInd ∧ ∃ r, r ≠ .f ∧ s.writeR8 x v = s.setReg r v) := by
  cases x <;> simp [State.writeR8] <;> exact ⟨_, by decide, rfl⟩

/-! The push, field by field. -/

@[simp] theorem State.push16_regs (s : State) (v : Word) : (s.push16 v).regs = s.regs := by
  simp [State.push16]
@[simp] theorem State.push16_pc (s : State) (v : Word) : (s.push16 v).pc = s.pc := by
  simp [State.push16]
@[simp] theorem State.push16_ime (s : State) (v : Word) : (s.push16 v).ime = s.ime := by
  simp [State.push16]
@[simp] theorem State.push16_eiPending (s : State) (v : Word) : (s.push16 v).eiPending = s.eiPending := by
  simp [State.push16]
@[simp] theorem State.push16_halted (s : State) (v : Word) : (s.push16 v).halted = s.halted := by
  simp [State.push16]
@[simp] theorem State.push16_stopped (s : State) (v : Word) : (s.push16 v).stopped = s.stopped := by
  simp [State.push16]
@[simp] theorem State.push16_haltBug (s : State) (v : Word) : (s.push16 v).haltBug = s.haltBug := by
  simp [State.push16]
@[simp] theorem State.push16_fault (s : State) (v : Word) : (s.push16 v).fault = s.fault := by
  simp [State.push16]
@[simp] theorem State.push16_refused (s : State) (v : Word) : (s.push16 v).refused = s.refused := by
  simp [State.push16]
@[simp] theorem State.push16_bootRom (s : State) (v : Word) : (s.push16 v).bootRom = s.bootRom := by
  simp [State.push16]
@[simp] theorem State.push16_params (s : State) (v : Word) : (s.push16 v).params = s.params := by
  simp [State.push16]
@[simp] theorem State.push16_taken (s : State) (v : Word) : (s.push16 v).taken = s.taken := by
  simp [State.push16]
@[simp] theorem State.push16_report (s : State) (v : Word) : (s.push16 v).report = s.report := by
  simp [State.push16]
@[simp] theorem State.push16_sp (s : State) (v : Word) : (s.push16 v).sp = s.sp - 2 := by
  rw [State.push16_eq]
  rfl
@[simp] theorem State.push16_cart_image (s : State) (v : Word) : (s.push16 v).cart.image = s.cart.image := by
  simp [State.push16]
@[simp] theorem State.push16_vram_image (s : State) (v : Word) : (s.push16 v).vram.image = s.vram.image := by
  simp [State.push16]

/-- A pop changes SP and nothing else; it answers the word at SP. -/
@[simp] theorem State.pop16_snd (s : State) : s.pop16.2 = s.setSp (s.sp + 2) := by
  rw [State.pop16_eq]
@[simp] theorem State.pop16_fst (s : State) : s.pop16.1 = joinBytes (s.busRead (s.sp + 1)) (s.busRead s.sp) := by
  rw [State.pop16_eq]

/-! A write through a selector, and the step of HL: what no operand can change. -/

@[simp] theorem State.writeR8_sp (s : State) (x : R8) (v : Byte) : (s.writeR8 x v).sp = s.sp := by
  cases x <;> simp [State.writeR8]
@[simp] theorem State.writeR8_pc (s : State) (x : R8) (v : Byte) : (s.writeR8 x v).pc = s.pc := by
  cases x <;> simp [State.writeR8]
@[simp] theorem State.writeR8_ime (s : State) (x : R8) (v : Byte) : (s.writeR8 x v).ime = s.ime := by
  cases x <;> simp [State.writeR8]
@[simp] theorem State.writeR8_eiPending (s : State) (x : R8) (v : Byte) : (s.writeR8 x v).eiPending = s.eiPending := by
  cases x <;> simp [State.writeR8]
@[simp] theorem State.writeR8_halted (s : State) (x : R8) (v : Byte) : (s.writeR8 x v).halted = s.halted := by
  cases x <;> simp [State.writeR8]
@[simp] theorem State.writeR8_stopped (s : State) (x : R8) (v : Byte) : (s.writeR8 x v).stopped = s.stopped := by
  cases x <;> simp [State.writeR8]
@[simp] theorem State.writeR8_haltBug (s : State) (x : R8) (v : Byte) : (s.writeR8 x v).haltBug = s.haltBug := by
  cases x <;> simp [State.writeR8]
@[simp] theorem State.writeR8_fault (s : State) (x : R8) (v : Byte) : (s.writeR8 x v).fault = s.fault := by
  cases x <;> simp [State.writeR8]
@[simp] theorem State.writeR8_refused (s : State) (x : R8) (v : Byte) : (s.writeR8 x v).refused = s.refused := by
  cases x <;> simp [State.writeR8]
@[simp] theorem State.writeR8_bootRom (s : State) (x : R8) (v : Byte) : (s.writeR8 x v).bootRom = s.bootRom := by
  cases x <;> simp [State.writeR8]
@[simp] theorem State.writeR8_params (s : State) (x : R8) (v : Byte) : (s.writeR8 x v).params = s.params := by
  cases x <;> simp [State.writeR8]
@[simp] theorem State.writeR8_taken (s : State) (x : R8) (v : Byte) : (s.writeR8 x v).taken = s.taken := by
  cases x <;> simp [State.writeR8]
@[simp] theorem State.writeR8_report (s : State) (x : R8) (v : Byte) : (s.writeR8 x v).report = s.report := by
  cases x <;> simp [State.writeR8]
@[simp] theorem State.writeR16_pc (s : State) (x : R16) (v : Word) : (s.writeR16 x v).pc = s.pc := by
  cases x <;> rfl
@[simp] theorem State.writeR16_ime (s : State) (x : R16) (v : Word) : (s.writeR16 x v).ime = s.ime := by
  cases x <;> rfl
@[simp] theorem State.writeR16_ie (s : State) (x : R16) (v : Word) : (s.writeR16 x v).ie = s.ie := by
  cases x <;> rfl
@[simp] theorem State.writeR16_intFlag (s : State) (x : R16) (v : Word) : (s.writeR16 x v).intFlag = s.intFlag := by
  cases x <;> rfl
@[simp] theorem State.writeR16_eiPending (s : State) (x : R16) (v : Word) : (s.writeR16 x v).eiPending = s.eiPending := by
  cases x <;> rfl
@[simp] theorem State.writeR16_halted (s : State) (x : R16) (v : Word) : (s.writeR16 x v).halted = s.halted := by
  cases x <;> rfl
@[simp] theorem State.writeR16_stopped (s : State) (x : R16) (v : Word) : (s.writeR16 x v).stopped = s.stopped := by
  cases x <;> rfl
@[simp] theorem State.writeR16_haltBug (s : State) (x : R16) (v : Word) : (s.writeR16 x v).haltBug = s.haltBug := by
  cases x <;> rfl
@[simp] theorem State.writeR16_bootMapped (s : State) (x : R16) (v : Word) : (s.writeR16 x v).bootMapped = s.bootMapped := by
  cases x <;> rfl
@[simp] theorem State.writeR16_mem (s : State) (x : R16) (v : Word) : (s.writeR16 x v).mem = s.mem := by
  cases x <;> rfl
@[simp] theorem State.writeR16_fault (s : State) (x : R16) (v : Word) : (s.writeR16 x v).fault = s.fault := by
  cases x <;> rfl
@[simp] theorem State.writeR16_refused (s : State) (x : R16) (v : Word) : (s.writeR16 x v).refused = s.refused := by
  cases x <;> rfl
@[simp] theorem State.writeR16_bootRom (s : State) (x : R16) (v : Word) : (s.writeR16 x v).bootRom = s.bootRom := by
  cases x <;> rfl
@[simp] theorem State.writeR16_cart (s : State) (x : R16) (v : Word) : (s.writeR16 x v).cart = s.cart := by
  cases x <;> rfl
@[simp] theorem State.writeR16_vram (s : State) (x : R16) (v : Word) : (s.writeR16 x v).vram = s.vram := by
  cases x <;> rfl
@[simp] theorem State.writeR16_params (s : State) (x : R16) (v : Word) : (s.writeR16 x v).params = s.params := by
  cases x <;> rfl
@[simp] theorem State.writeR16_taken (s : State) (x : R16) (v : Word) : (s.writeR16 x v).taken = s.taken := by
  cases x <;> rfl
@[simp] theorem State.writeR16_report (s : State) (x : R16) (v : Word) : (s.writeR16 x v).report = s.report := by
  cases x <;> rfl
@[simp] theorem State.postStep_sp (s : State) (m : R16Mem) : (s.postStep m).sp = s.sp := by
  cases m <;> rfl
@[simp] theorem State.postStep_pc (s : State) (m : R16Mem) : (s.postStep m).pc = s.pc := by
  cases m <;> rfl
@[simp] theorem State.postStep_ime (s : State) (m : R16Mem) : (s.postStep m).ime = s.ime := by
  cases m <;> rfl
@[simp] theorem State.postStep_ie (s : State) (m : R16Mem) : (s.postStep m).ie = s.ie := by
  cases m <;> rfl
@[simp] theorem State.postStep_intFlag (s : State) (m : R16Mem) : (s.postStep m).intFlag = s.intFlag := by
  cases m <;> rfl
@[simp] theorem State.postStep_eiPending (s : State) (m : R16Mem) : (s.postStep m).eiPending = s.eiPending := by
  cases m <;> rfl
@[simp] theorem State.postStep_halted (s : State) (m : R16Mem) : (s.postStep m).halted = s.halted := by
  cases m <;> rfl
@[simp] theorem State.postStep_stopped (s : State) (m : R16Mem) : (s.postStep m).stopped = s.stopped := by
  cases m <;> rfl
@[simp] theorem State.postStep_haltBug (s : State) (m : R16Mem) : (s.postStep m).haltBug = s.haltBug := by
  cases m <;> rfl
@[simp] theorem State.postStep_bootMapped (s : State) (m : R16Mem) : (s.postStep m).bootMapped = s.bootMapped := by
  cases m <;> rfl
@[simp] theorem State.postStep_mem (s : State) (m : R16Mem) : (s.postStep m).mem = s.mem := by
  cases m <;> rfl
@[simp] theorem State.postStep_fault (s : State) (m : R16Mem) : (s.postStep m).fault = s.fault := by
  cases m <;> rfl
@[simp] theorem State.postStep_refused (s : State) (m : R16Mem) : (s.postStep m).refused = s.refused := by
  cases m <;> rfl
@[simp] theorem State.postStep_bootRom (s : State) (m : R16Mem) : (s.postStep m).bootRom = s.bootRom := by
  cases m <;> rfl
@[simp] theorem State.postStep_cart (s : State) (m : R16Mem) : (s.postStep m).cart = s.cart := by
  cases m <;> rfl
@[simp] theorem State.postStep_vram (s : State) (m : R16Mem) : (s.postStep m).vram = s.vram := by
  cases m <;> rfl
@[simp] theorem State.postStep_params (s : State) (m : R16Mem) : (s.postStep m).params = s.params := by
  cases m <;> rfl
@[simp] theorem State.postStep_taken (s : State) (m : R16Mem) : (s.postStep m).taken = s.taken := by
  cases m <;> rfl
@[simp] theorem State.postStep_report (s : State) (m : R16Mem) : (s.postStep m).report = s.report := by
  cases m <;> rfl

/-- The bus reads only the memories, the interrupt registers, the boot flag and the parameters. -/
theorem State.busRead_congr {s t : State} (a : Word) (hm : t.mem = s.mem) (hb : t.bootRom = s.bootRom) (hc : t.cart = s.cart)
    (hv : t.vram = s.vram) (hi : t.ie = s.ie) (hf : t.intFlag = s.intFlag) (ho : t.bootMapped = s.bootMapped)
    (hp : t.params = s.params) : t.busRead a = s.busRead a := by
  unfold State.busRead
  rw [hm, hb, hc, hv, hi, hf, ho, hp]

end Sys2Proof.Machine
end

