-- ==== Sys2Proof/Laws/Exec.lean ====
section
/-! SUPPORT. The dispatch said once: `exec` of an instruction with a descriptor is the shared operation of that descriptor on
the instruction's immediate. A statement about every instruction is then a case split over descriptors, not constructors. -/

namespace Sys2Proof.Machine

/-- The shared operation of a descriptor, on the byte immediate `n` and the word immediate `a`. -/
def meaningOf (d : Descriptor) (n : Byte) (a : Word) : State → State :=
  match d with
  | .nop => fun s => s
  | .stop => stopOp
  | .halt => haltOp
  | .di => diOp
  | .ei => eiOp
  | .ldR8R8 dst src => ldR8R8 dst src
  | .ldR8N8 dst => ldR8N8 dst n
  | .ldR16N16 r => ldR16N16 r a
  | .ldR16memA m => ldR16memA m
  | .ldAR16mem m => ldAR16mem m
  | .ldA16A => storeA a
  | .ldAA16 => loadA a
  | .ldhA8A => storeA (highPage n)
  | .ldhAA8 => loadA (highPage n)
  | .ldhCA => fun s => storeA (highPage (s.reg .c)) s
  | .ldhAC => fun s => loadA (highPage (s.reg .c)) s
  | .ldA16Sp => ldA16Sp a
  | .ldSpHl => ldSpHl
  | .ldHlSpE8 => ldHlSpE8 n
  | .aluR8 op r => aluR8 op r
  | .aluN8 op => aluN8 op n
  | .incR8 r => incR8 r
  | .decR8 r => decR8 r
  | .addHlR16 r => addHlR16 r
  | .incR16 r => incR16 r
  | .decR16 r => decR16 r
  | .addSpE8 => addSpE8 n
  | .jpA16 => jpA16 a
  | .jpCcA16 cc => jpCcA16 cc a
  | .jpHl => jpHl
  | .jrE8 => jrE8 n
  | .jrCcE8 cc => jrCcE8 cc n
  | .callA16 => callA16 a
  | .callCcA16 cc => callCcA16 cc a
  | .ret => retOp
  | .retCc cc => retCc cc
  | .reti => State.returnFromInterrupt
  | .rst t => rstOp t
  | .push r => pushOp r
  | .pop r => popOp r
  | .daa => daaOp
  | .cpl => cplOp
  | .scf => scfOp
  | .ccf => ccfOp
  | .rlca => rotA .rlc
  | .rrca => rotA .rrc
  | .rla => rotA .rl
  | .rra => rotA .rr
  | .rot op r => rotR8 op r
  | .bit k r => bitR8 k r
  | .res k r => resR8 k r
  | .set k r => setR8 k r

/-- The byte immediate of an instruction, as its encoding holds it. -/
def byteOf (i : Instr) : Byte := (encode i).getD 1 0

/-- The word immediate of an instruction, as its encoding holds it. -/
def wordOf (i : Instr) : Word := joinBytes ((encode i).getD 2 0) ((encode i).getD 1 0)

@[simp] theorem joinBytes_hi_lo (w : Word) : joinBytes (hiByte w) (loByte w) = w := by
  unfold joinBytes hiByte loByte
  rw [BitVec.extractLsb'_append_extractLsb'_eq_extractLsb' (by decide)]
  exact BitVec.extractLsb'_eq_self

@[simp] theorem hiByte_joinBytes (h l : Byte) : hiByte (joinBytes h l) = h := by
  unfold joinBytes hiByte
  exact BitVec.extractLsb'_append_eq_left

@[simp] theorem loByte_joinBytes (h l : Byte) : loByte (joinBytes h l) = l := by
  unfold joinBytes loByte
  exact BitVec.extractLsb'_append_eq_right

/-- Every byte decodes, behind the escape, to one of the four prefixed groups. -/
theorem decodeFields_prefixed (op2 : Byte) :
    (∃ op r, decodeFields op2 true = .instr (.rot op r)) ∨ (∃ k r, decodeFields op2 true = .instr (.bit k r)) ∨
    (∃ k r, decodeFields op2 true = .instr (.res k r)) ∨ (∃ k r, decodeFields op2 true = .instr (.set k r)) := by
  unfold decodeFields
  simp only [if_true]
  split
  · exact .inl ⟨_, _, rfl⟩
  · exact .inr (.inl ⟨_, _, rfl⟩)
  · exact .inr (.inr (.inl ⟨_, _, rfl⟩))
  · exact .inr (.inr (.inr ⟨_, _, rfl⟩))

/-- The unresolved escape executes the shared operation of its second byte's descriptor. -/
theorem exec_prefixCb (op2 : Byte) (d : Descriptor) (s : State) (h : (Instr.prefixCb op2).descriptor = some d) :
    exec (.prefixCb op2) s = .next (meaningOf d 0 0 s) := by
  have hd : (decodeFields op2 true).descriptor? = some d := h
  show Host.Outcome.next (cbByFields op2 s) = _
  unfold cbByFields
  rcases decodeFields_prefixed op2 with ⟨_, _, e⟩ | ⟨_, _, e⟩ | ⟨_, _, e⟩ | ⟨_, _, e⟩ <;>
    (rw [e] at hd ⊢; cases hd; rfl)

/-- `exec` of every instruction with a descriptor is that descriptor's shared operation on its immediates. -/
theorem exec_of_descriptor (i : Instr) (d : Descriptor) (s : State) (h : i.descriptor = some d) :
    exec i s = .next (meaningOf d (byteOf i) (wordOf i) s) := by
  cases i
  case prefixCb op2 =>
    rw [exec_prefixCb op2 d s h]
    have hd : (decodeFields op2 true).descriptor? = some d := h
    rcases decodeFields_prefixed op2 with ⟨_, _, e⟩ | ⟨_, _, e⟩ | ⟨_, _, e⟩ | ⟨_, _, e⟩ <;>
      (rw [e] at hd; cases hd; rfl)
  all_goals cases h
  all_goals
    first
      | rfl
      | (show _ = Host.Outcome.next (meaningOf _ _ (joinBytes (hiByte _) (loByte _)) s)
         rw [joinBytes_hi_lo]
         rfl)

end Sys2Proof.Machine
end

