-- ==== Sys2Proof/Laws/Grid.lean ====
section
/-! SUPPORT. What each entry of the unprefixed grid answers, said once for all 256 bytes: an instruction with a descriptor
whose encoding begins with that byte, the escape, or an unmapped byte. -/

namespace Sys2Proof

/-- The entry at a byte is that byte's: its instructions have a descriptor and are encoded with the byte in front. -/
def Entry.Good (op : Byte) : Entry → Prop
  | .plain i => i.descriptor.isSome = true ∧ encode i = [op]
  | .imm8 g => ∀ n, (g n).descriptor.isSome = true ∧ encode (g n) = [op, n]
  | .imm16 g => ∀ a, (g a).descriptor.isSome = true ∧ encode (g a) = [op, loByte a, hiByte a]
  | .escape => op = 0xCB
  | .unmapped => op ∈ unmappedBytes

/-- Every entry of a piece of the grid that begins at byte `k` is its byte's. -/
def GridGood (k : Nat) : List Entry → Prop
  | [] => True
  | e :: es => e.Good (BitVec.ofNat 8 k) ∧ GridGood (k + 1) es

theorem GridGood.append {k n : Nat} {xs ys : List Entry} (hx : GridGood k xs) (hn : k + xs.length = n)
    (hy : GridGood n ys) : GridGood k (xs ++ ys) := by
  induction xs generalizing k with
  | nil =>
    rw [List.length_nil, Nat.add_zero] at hn
    exact hn ▸ hy
  | cons e xs ih =>
    refine ⟨hx.1, ih hx.2 ?_⟩
    rw [List.length_cons] at hn
    omega

theorem GridGood.getD {k i : Nat} {es : List Entry} (h : GridGood k es) (hi : i < es.length) (d : Entry) :
    (es.getD i d).Good (BitVec.ofNat 8 (k + i)) := by
  induction es generalizing k i with
  | nil => exact absurd hi (Nat.not_lt_zero i)
  | cons e es ih =>
    cases i with
    | zero => exact h.1
    | succ i =>
      have := ih h.2 (Nat.lt_of_succ_lt_succ hi)
      rwa [Nat.add_assoc, Nat.add_comm 1 i] at this

theorem gridGood_row0 : GridGood 0x00 gridRow0 := by
  iterate 16 refine And.intro (by first | exact ⟨rfl, rfl⟩ | exact fun _ => ⟨rfl, rfl⟩ | (unfold Entry.Good; decide)) ?_
  exact trivial
theorem gridGood_row1 : GridGood 0x10 gridRow1 := by
  iterate 16 refine And.intro (by first | exact ⟨rfl, rfl⟩ | exact fun _ => ⟨rfl, rfl⟩ | (unfold Entry.Good; decide)) ?_
  exact trivial
theorem gridGood_row2 : GridGood 0x20 gridRow2 := by
  iterate 16 refine And.intro (by first | exact ⟨rfl, rfl⟩ | exact fun _ => ⟨rfl, rfl⟩ | (unfold Entry.Good; decide)) ?_
  exact trivial
theorem gridGood_row3 : GridGood 0x30 gridRow3 := by
  iterate 16 refine And.intro (by first | exact ⟨rfl, rfl⟩ | exact fun _ => ⟨rfl, rfl⟩ | (unfold Entry.Good; decide)) ?_
  exact trivial
theorem gridGood_row4 : GridGood 0x40 gridRow4 := by
  iterate 16 refine And.intro (by first | exact ⟨rfl, rfl⟩ | exact fun _ => ⟨rfl, rfl⟩ | (unfold Entry.Good; decide)) ?_
  exact trivial
theorem gridGood_row5 : GridGood 0x50 gridRow5 := by
  iterate 16 refine And.intro (by first | exact ⟨rfl, rfl⟩ | exact fun _ => ⟨rfl, rfl⟩ | (unfold Entry.Good; decide)) ?_
  exact trivial
theorem gridGood_row6 : GridGood 0x60 gridRow6 := by
  iterate 16 refine And.intro (by first | exact ⟨rfl, rfl⟩ | exact fun _ => ⟨rfl, rfl⟩ | (unfold Entry.Good; decide)) ?_
  exact trivial
theorem gridGood_row7 : GridGood 0x70 gridRow7 := by
  iterate 16 refine And.intro (by first | exact ⟨rfl, rfl⟩ | exact fun _ => ⟨rfl, rfl⟩ | (unfold Entry.Good; decide)) ?_
  exact trivial
theorem gridGood_row8 : GridGood 0x80 gridRow8 := by
  iterate 16 refine And.intro (by first | exact ⟨rfl, rfl⟩ | exact fun _ => ⟨rfl, rfl⟩ | (unfold Entry.Good; decide)) ?_
  exact trivial
theorem gridGood_row9 : GridGood 0x90 gridRow9 := by
  iterate 16 refine And.intro (by first | exact ⟨rfl, rfl⟩ | exact fun _ => ⟨rfl, rfl⟩ | (unfold Entry.Good; decide)) ?_
  exact trivial
theorem gridGood_rowA : GridGood 0xA0 gridRowA := by
  iterate 16 refine And.intro (by first | exact ⟨rfl, rfl⟩ | exact fun _ => ⟨rfl, rfl⟩ | (unfold Entry.Good; decide)) ?_
  exact trivial
theorem gridGood_rowB : GridGood 0xB0 gridRowB := by
  iterate 16 refine And.intro (by first | exact ⟨rfl, rfl⟩ | exact fun _ => ⟨rfl, rfl⟩ | (unfold Entry.Good; decide)) ?_
  exact trivial
theorem gridGood_rowC : GridGood 0xC0 gridRowC := by
  iterate 16 refine And.intro (by first | exact ⟨rfl, rfl⟩ | exact fun _ => ⟨rfl, rfl⟩ | (unfold Entry.Good; decide)) ?_
  exact trivial
theorem gridGood_rowD : GridGood 0xD0 gridRowD := by
  iterate 16 refine And.intro (by first | exact ⟨rfl, rfl⟩ | exact fun _ => ⟨rfl, rfl⟩ | (unfold Entry.Good; decide)) ?_
  exact trivial
theorem gridGood_rowE : GridGood 0xE0 gridRowE := by
  iterate 16 refine And.intro (by first | exact ⟨rfl, rfl⟩ | exact fun _ => ⟨rfl, rfl⟩ | (unfold Entry.Good; decide)) ?_
  exact trivial
theorem gridGood_rowF : GridGood 0xF0 gridRowF := by
  iterate 16 refine And.intro (by first | exact ⟨rfl, rfl⟩ | exact fun _ => ⟨rfl, rfl⟩ | (unfold Entry.Good; decide)) ?_
  exact trivial

theorem entryOf_good (op : Byte) : (entryOf op).Good op := by
  have h : GridGood 0 grid := by
    have hE := gridGood_rowE.append (n := 0xF0) rfl gridGood_rowF
    have hD := gridGood_rowD.append (n := 0xE0) rfl hE
    have hC := gridGood_rowC.append (n := 0xD0) rfl hD
    have hB := gridGood_rowB.append (n := 0xC0) rfl hC
    have hA := gridGood_rowA.append (n := 0xB0) rfl hB
    have h9 := gridGood_row9.append (n := 0xA0) rfl hA
    have h8 := gridGood_row8.append (n := 0x90) rfl h9
    have h7 := gridGood_row7.append (n := 0x80) rfl h8
    have h6 := gridGood_row6.append (n := 0x70) rfl h7
    have h5 := gridGood_row5.append (n := 0x60) rfl h6
    have h4 := gridGood_row4.append (n := 0x50) rfl h5
    have h3 := gridGood_row3.append (n := 0x40) rfl h4
    have h2 := gridGood_row2.append (n := 0x30) rfl h3
    have h1 := gridGood_row1.append (n := 0x20) rfl h2
    have h0 := gridGood_row0.append (n := 0x10) rfl h1
    exact h0
  have hl : grid.length = 256 := by
    simp only [grid, List.length_append]
    rfl
  have hlt : op.toNat < grid.length := by
    have := op.isLt
    omega
  have := h.getD hlt .unmapped
  rwa [Nat.zero_add, BitVec.ofNat_toNat, BitVec.setWidth_eq] at this

/-- The prefixed grid answers, at every byte, the instruction encoded as the escape and that byte, with the descriptor of the
byte's fields. -/
theorem prefixedOf_good (op2 : Byte) :
    encode (prefixedOf op2) = [0xCB, op2] ∧ (prefixedOf op2).descriptor = (decodeFields op2 true).descriptor? ∧
      (prefixedOf op2).wellFormed = true := by
  revert op2
  decide

end Sys2Proof
end

