-- ==== Sys2Proof/Laws/Invariant.lean ====
section
/-! SUPPORT. The parts of the invariant that each shared operation keeps, for the proofs over instructions. -/

namespace Sys2Proof.Machine

/-- The part of the invariant about data: a clean F and the canonical memories. It does not mention the wait states. -/
structure State.DataInv (s : State) : Prop where
  flags : s.FlagsClean
  mem   : Memory.wf s.mem = true
  owned : s.MemOwned
  boot  : Memory.wf s.bootRom = true
  cart  : Memory.rising s.cart.image = true
  vram  : Memory.rising s.vram.image = true

/-- The data part reads only these fields. -/
theorem State.DataInv.congr {s t : State} (h : s.DataInv) (hr : t.regs.f = s.regs.f) (hm : t.mem = s.mem)
    (hb : t.bootRom = s.bootRom) (hc : t.cart.image = s.cart.image) (hv : t.vram.image = s.vram.image) : t.DataInv where
  flags := by
    unfold State.FlagsClean
    rw [hr]
    exact h.flags
  mem := hm ▸ h.mem
  owned := by
    intro c hc
    exact h.owned c (hm ▸ hc)
  boot := hb ▸ h.boot
  cart := hc ▸ h.cart
  vram := hv ▸ h.vram

theorem State.Inv.data {s : State} (h : s.Inv) : s.DataInv := ⟨h.flags, h.mem, h.owned, h.boot, h.cart, h.vram⟩

theorem State.DataInv.inv {s : State} (h : s.DataInv) (hw : s.OneWait) : s.Inv :=
  ⟨h.flags, hw, h.mem, h.owned, h.boot, h.cart, h.vram⟩

theorem State.DataInv.setReg {s : State} (h : s.DataInv) (x : Reg) (v : Byte) : (s.setReg x v).DataInv := by
  cases x
  case f =>
    exact ⟨by simp [State.FlagsClean, State.setReg, Regs.put, BitVec.and_assoc], h.mem, h.owned, h.boot, h.cart, h.vram⟩
  all_goals exact h.congr rfl rfl rfl rfl rfl

theorem State.DataInv.setPair {s : State} (h : s.DataInv) (p : Pair) (v : Word) : (s.setPair p v).DataInv :=
  (h.setReg _ _).setReg _ _

theorem State.DataInv.setFlags {s : State} (h : s.DataInv) (z n hf c : Bool) : (s.setFlags z n hf c).DataInv :=
  h.setReg _ _

theorem State.DataInv.setSp {s : State} (h : s.DataInv) (v : Word) : (s.setSp v).DataInv := h.congr rfl rfl rfl rfl rfl

theorem State.DataInv.jump {s : State} (h : s.DataInv) (a : Word) : (s.jump a).DataInv := h.congr rfl rfl rfl rfl rfl

theorem State.DataInv.busWrite {s : State} (h : s.DataInv) (a : Word) (v : Byte) : (s.busWrite a v).DataInv := by
  rcases State.busWrite_mem s a v with hm | ⟨k, hk, hm⟩
  · exact h.congr (by simp) hm (by simp) (by simp) (by simp)
  · refine ⟨?_, ?_, ?_, ?_, ?_, ?_⟩
    · simpa [State.FlagsClean] using h.flags
    · rw [hm]
      exact Memory.wf_write _ _ _ h.mem
    · intro c hc
      rw [hm] at hc
      rcases Memory.mem_write hc with ⟨he, _⟩ | hc
      · rw [he]
        exact hk
      · exact h.owned c hc
    · simpa using h.boot
    · simpa using h.cart
    · simpa using h.vram

theorem State.DataInv.push16 {s : State} (h : s.DataInv) (v : Word) : (s.push16 v).DataInv := by
  rw [State.push16_eq]
  exact ((h.busWrite _ _).busWrite _ _).setSp _

theorem State.DataInv.pop16 {s : State} (h : s.DataInv) : s.pop16.2.DataInv := by
  rw [State.pop16_eq]
  exact h.setSp _

theorem State.DataInv.writeR8 {s : State} (h : s.DataInv) (x : R8) (v : Byte) : (s.writeR8 x v).DataInv := by
  cases x <;> first | exact h.setReg _ _ | exact h.busWrite _ _

theorem State.DataInv.writeR16 {s : State} (h : s.DataInv) (x : R16) (v : Word) : (s.writeR16 x v).DataInv := by
  cases x <;> first | exact h.setPair _ _ | exact h.setSp _

theorem State.DataInv.postStep {s : State} (h : s.DataInv) (m : R16Mem) : (s.postStep m).DataInv := by
  cases m <;> first | exact h | exact h.setPair _ _

end Sys2Proof.Machine
end

