-- ==== Sys2Proof/Laws/PerInstr.lean ====
section
/-! SUPPORT. The family of statements made per instruction: the encoding of a well-formed instruction has the length that its
first byte gives (R102 of spec/30_encoding.md). -/

namespace Sys2Proof.Laws

/-- A well-formed instruction is encoded in as many bytes as R102 reads from its first byte. -/
def EncodedLength.Statement (i : Instr) : Prop :=
  i.wellFormed = true → (encode i).length = lengthOf ((encode i).headD 0)

theorem EncodedLength.ld_BC_n16 (n : Word) : EncodedLength.Statement (.ld_BC_n16 n) := fun _ => show (3 : Nat) = lengthOf 0x01 by decide
theorem EncodedLength.ld_B_n8 (n : Byte) : EncodedLength.Statement (.ld_B_n8 n) := fun _ => show (2 : Nat) = lengthOf 0x06 by decide
theorem EncodedLength.ld_ma16_SP (a : Word) : EncodedLength.Statement (.ld_ma16_SP a) := fun _ => show (3 : Nat) = lengthOf 0x08 by decide
theorem EncodedLength.ld_C_n8 (n : Byte) : EncodedLength.Statement (.ld_C_n8 n) := fun _ => show (2 : Nat) = lengthOf 0x0E by decide
theorem EncodedLength.stop (ignored : Byte) : EncodedLength.Statement (.stop ignored) := fun _ => show (2 : Nat) = lengthOf 0x10 by decide
theorem EncodedLength.ld_DE_n16 (n : Word) : EncodedLength.Statement (.ld_DE_n16 n) := fun _ => show (3 : Nat) = lengthOf 0x11 by decide
theorem EncodedLength.ld_D_n8 (n : Byte) : EncodedLength.Statement (.ld_D_n8 n) := fun _ => show (2 : Nat) = lengthOf 0x16 by decide
theorem EncodedLength.jr_e8 (e : Byte) : EncodedLength.Statement (.jr_e8 e) := fun _ => show (2 : Nat) = lengthOf 0x18 by decide
theorem EncodedLength.ld_E_n8 (n : Byte) : EncodedLength.Statement (.ld_E_n8 n) := fun _ => show (2 : Nat) = lengthOf 0x1E by decide
theorem EncodedLength.jr_NZ_e8 (e : Byte) : EncodedLength.Statement (.jr_NZ_e8 e) := fun _ => show (2 : Nat) = lengthOf 0x20 by decide
theorem EncodedLength.ld_HL_n16 (n : Word) : EncodedLength.Statement (.ld_HL_n16 n) := fun _ => show (3 : Nat) = lengthOf 0x21 by decide
theorem EncodedLength.ld_H_n8 (n : Byte) : EncodedLength.Statement (.ld_H_n8 n) := fun _ => show (2 : Nat) = lengthOf 0x26 by decide
theorem EncodedLength.jr_Z_e8 (e : Byte) : EncodedLength.Statement (.jr_Z_e8 e) := fun _ => show (2 : Nat) = lengthOf 0x28 by decide
theorem EncodedLength.ld_L_n8 (n : Byte) : EncodedLength.Statement (.ld_L_n8 n) := fun _ => show (2 : Nat) = lengthOf 0x2E by decide
theorem EncodedLength.jr_NC_e8 (e : Byte) : EncodedLength.Statement (.jr_NC_e8 e) := fun _ => show (2 : Nat) = lengthOf 0x30 by decide
theorem EncodedLength.ld_SP_n16 (n : Word) : EncodedLength.Statement (.ld_SP_n16 n) := fun _ => show (3 : Nat) = lengthOf 0x31 by decide
theorem EncodedLength.ld_mHL_n8 (n : Byte) : EncodedLength.Statement (.ld_mHL_n8 n) := fun _ => show (2 : Nat) = lengthOf 0x36 by decide
theorem EncodedLength.jr_C_e8 (e : Byte) : EncodedLength.Statement (.jr_C_e8 e) := fun _ => show (2 : Nat) = lengthOf 0x38 by decide
theorem EncodedLength.ld_A_n8 (n : Byte) : EncodedLength.Statement (.ld_A_n8 n) := fun _ => show (2 : Nat) = lengthOf 0x3E by decide
theorem EncodedLength.jp_NZ_a16 (a : Word) : EncodedLength.Statement (.jp_NZ_a16 a) := fun _ => show (3 : Nat) = lengthOf 0xC2 by decide
theorem EncodedLength.jp_a16 (a : Word) : EncodedLength.Statement (.jp_a16 a) := fun _ => show (3 : Nat) = lengthOf 0xC3 by decide
theorem EncodedLength.call_NZ_a16 (a : Word) : EncodedLength.Statement (.call_NZ_a16 a) := fun _ => show (3 : Nat) = lengthOf 0xC4 by decide
theorem EncodedLength.add_A_n8 (n : Byte) : EncodedLength.Statement (.add_A_n8 n) := fun _ => show (2 : Nat) = lengthOf 0xC6 by decide
theorem EncodedLength.jp_Z_a16 (a : Word) : EncodedLength.Statement (.jp_Z_a16 a) := fun _ => show (3 : Nat) = lengthOf 0xCA by decide
theorem EncodedLength.prefixCb (op2 : Byte) : EncodedLength.Statement (.prefixCb op2) := fun h => nomatch h
theorem EncodedLength.call_Z_a16 (a : Word) : EncodedLength.Statement (.call_Z_a16 a) := fun _ => show (3 : Nat) = lengthOf 0xCC by decide
theorem EncodedLength.call_a16 (a : Word) : EncodedLength.Statement (.call_a16 a) := fun _ => show (3 : Nat) = lengthOf 0xCD by decide
theorem EncodedLength.adc_A_n8 (n : Byte) : EncodedLength.Statement (.adc_A_n8 n) := fun _ => show (2 : Nat) = lengthOf 0xCE by decide
theorem EncodedLength.jp_NC_a16 (a : Word) : EncodedLength.Statement (.jp_NC_a16 a) := fun _ => show (3 : Nat) = lengthOf 0xD2 by decide
theorem EncodedLength.unmapped (op : Byte) : EncodedLength.Statement (.unmapped op) := by
  intro h
  have h' : op ∈ unmappedBytes := by simpa [Instr.wellFormed] using h
  revert op
  decide
theorem EncodedLength.call_NC_a16 (a : Word) : EncodedLength.Statement (.call_NC_a16 a) := fun _ => show (3 : Nat) = lengthOf 0xD4 by decide
theorem EncodedLength.sub_n8 (n : Byte) : EncodedLength.Statement (.sub_n8 n) := fun _ => show (2 : Nat) = lengthOf 0xD6 by decide
theorem EncodedLength.jp_C_a16 (a : Word) : EncodedLength.Statement (.jp_C_a16 a) := fun _ => show (3 : Nat) = lengthOf 0xDA by decide
theorem EncodedLength.call_C_a16 (a : Word) : EncodedLength.Statement (.call_C_a16 a) := fun _ => show (3 : Nat) = lengthOf 0xDC by decide
theorem EncodedLength.sbc_A_n8 (n : Byte) : EncodedLength.Statement (.sbc_A_n8 n) := fun _ => show (2 : Nat) = lengthOf 0xDE by decide
theorem EncodedLength.ldh_ma8_A (n : Byte) : EncodedLength.Statement (.ldh_ma8_A n) := fun _ => show (2 : Nat) = lengthOf 0xE0 by decide
theorem EncodedLength.and_n8 (n : Byte) : EncodedLength.Statement (.and_n8 n) := fun _ => show (2 : Nat) = lengthOf 0xE6 by decide
theorem EncodedLength.add_SP_e8 (e : Byte) : EncodedLength.Statement (.add_SP_e8 e) := fun _ => show (2 : Nat) = lengthOf 0xE8 by decide
theorem EncodedLength.ld_ma16_A (a : Word) : EncodedLength.Statement (.ld_ma16_A a) := fun _ => show (3 : Nat) = lengthOf 0xEA by decide
theorem EncodedLength.xor_n8 (n : Byte) : EncodedLength.Statement (.xor_n8 n) := fun _ => show (2 : Nat) = lengthOf 0xEE by decide
theorem EncodedLength.ldh_A_ma8 (n : Byte) : EncodedLength.Statement (.ldh_A_ma8 n) := fun _ => show (2 : Nat) = lengthOf 0xF0 by decide
theorem EncodedLength.or_n8 (n : Byte) : EncodedLength.Statement (.or_n8 n) := fun _ => show (2 : Nat) = lengthOf 0xF6 by decide
theorem EncodedLength.ld_HL_SPe8 (e : Byte) : EncodedLength.Statement (.ld_HL_SPe8 e) := fun _ => show (2 : Nat) = lengthOf 0xF8 by decide
theorem EncodedLength.ld_A_ma16 (a : Word) : EncodedLength.Statement (.ld_A_ma16 a) := fun _ => show (3 : Nat) = lengthOf 0xFA by decide
theorem EncodedLength.cp_n8 (n : Byte) : EncodedLength.Statement (.cp_n8 n) := fun _ => show (2 : Nat) = lengthOf 0xFE by decide
theorem EncodedLength.nop : EncodedLength.Statement .nop := fun _ => show (1 : Nat) = lengthOf 0x00 by decide
theorem EncodedLength.ld_mBC_A : EncodedLength.Statement .ld_mBC_A := fun _ => show (1 : Nat) = lengthOf 0x02 by decide
theorem EncodedLength.inc_BC : EncodedLength.Statement .inc_BC := fun _ => show (1 : Nat) = lengthOf 0x03 by decide
theorem EncodedLength.inc_B : EncodedLength.Statement .inc_B := fun _ => show (1 : Nat) = lengthOf 0x04 by decide
theorem EncodedLength.dec_B : EncodedLength.Statement .dec_B := fun _ => show (1 : Nat) = lengthOf 0x05 by decide
theorem EncodedLength.rlca : EncodedLength.Statement .rlca := fun _ => show (1 : Nat) = lengthOf 0x07 by decide
theorem EncodedLength.add_HL_BC : EncodedLength.Statement .add_HL_BC := fun _ => show (1 : Nat) = lengthOf 0x09 by decide
theorem EncodedLength.ld_A_mBC : EncodedLength.Statement .ld_A_mBC := fun _ => show (1 : Nat) = lengthOf 0x0A by decide
theorem EncodedLength.dec_BC : EncodedLength.Statement .dec_BC := fun _ => show (1 : Nat) = lengthOf 0x0B by decide
theorem EncodedLength.inc_C : EncodedLength.Statement .inc_C := fun _ => show (1 : Nat) = lengthOf 0x0C by decide
theorem EncodedLength.dec_C : EncodedLength.Statement .dec_C := fun _ => show (1 : Nat) = lengthOf 0x0D by decide
theorem EncodedLength.rrca : EncodedLength.Statement .rrca := fun _ => show (1 : Nat) = lengthOf 0x0F by decide
theorem EncodedLength.ld_mDE_A : EncodedLength.Statement .ld_mDE_A := fun _ => show (1 : Nat) = lengthOf 0x12 by decide
theorem EncodedLength.inc_DE : EncodedLength.Statement .inc_DE := fun _ => show (1 : Nat) = lengthOf 0x13 by decide
theorem EncodedLength.inc_D : EncodedLength.Statement .inc_D := fun _ => show (1 : Nat) = lengthOf 0x14 by decide
theorem EncodedLength.dec_D : EncodedLength.Statement .dec_D := fun _ => show (1 : Nat) = lengthOf 0x15 by decide
theorem EncodedLength.rla : EncodedLength.Statement .rla := fun _ => show (1 : Nat) = lengthOf 0x17 by decide
theorem EncodedLength.add_HL_DE : EncodedLength.Statement .add_HL_DE := fun _ => show (1 : Nat) = lengthOf 0x19 by decide
theorem EncodedLength.ld_A_mDE : EncodedLength.Statement .ld_A_mDE := fun _ => show (1 : Nat) = lengthOf 0x1A by decide
theorem EncodedLength.dec_DE : EncodedLength.Statement .dec_DE := fun _ => show (1 : Nat) = lengthOf 0x1B by decide
theorem EncodedLength.inc_E : EncodedLength.Statement .inc_E := fun _ => show (1 : Nat) = lengthOf 0x1C by decide
theorem EncodedLength.dec_E : EncodedLength.Statement .dec_E := fun _ => show (1 : Nat) = lengthOf 0x1D by decide
theorem EncodedLength.rra : EncodedLength.Statement .rra := fun _ => show (1 : Nat) = lengthOf 0x1F by decide
theorem EncodedLength.ld_mHLinc_A : EncodedLength.Statement .ld_mHLinc_A := fun _ => show (1 : Nat) = lengthOf 0x22 by decide
theorem EncodedLength.inc_HL : EncodedLength.Statement .inc_HL := fun _ => show (1 : Nat) = lengthOf 0x23 by decide
theorem EncodedLength.inc_H : EncodedLength.Statement .inc_H := fun _ => show (1 : Nat) = lengthOf 0x24 by decide
theorem EncodedLength.dec_H : EncodedLength.Statement .dec_H := fun _ => show (1 : Nat) = lengthOf 0x25 by decide
theorem EncodedLength.daa : EncodedLength.Statement .daa := fun _ => show (1 : Nat) = lengthOf 0x27 by decide
theorem EncodedLength.add_HL_HL : EncodedLength.Statement .add_HL_HL := fun _ => show (1 : Nat) = lengthOf 0x29 by decide
theorem EncodedLength.ld_A_mHLinc : EncodedLength.Statement .ld_A_mHLinc := fun _ => show (1 : Nat) = lengthOf 0x2A by decide
theorem EncodedLength.dec_HL : EncodedLength.Statement .dec_HL := fun _ => show (1 : Nat) = lengthOf 0x2B by decide
theorem EncodedLength.inc_L : EncodedLength.Statement .inc_L := fun _ => show (1 : Nat) = lengthOf 0x2C by decide
theorem EncodedLength.dec_L : EncodedLength.Statement .dec_L := fun _ => show (1 : Nat) = lengthOf 0x2D by decide
theorem EncodedLength.cpl : EncodedLength.Statement .cpl := fun _ => show (1 : Nat) = lengthOf 0x2F by decide
theorem EncodedLength.ld_mHLdec_A : EncodedLength.Statement .ld_mHLdec_A := fun _ => show (1 : Nat) = lengthOf 0x32 by decide
theorem EncodedLength.inc_SP : EncodedLength.Statement .inc_SP := fun _ => show (1 : Nat) = lengthOf 0x33 by decide
theorem EncodedLength.inc_mHL : EncodedLength.Statement .inc_mHL := fun _ => show (1 : Nat) = lengthOf 0x34 by decide
theorem EncodedLength.dec_mHL : EncodedLength.Statement .dec_mHL := fun _ => show (1 : Nat) = lengthOf 0x35 by decide
theorem EncodedLength.scf : EncodedLength.Statement .scf := fun _ => show (1 : Nat) = lengthOf 0x37 by decide
theorem EncodedLength.add_HL_SP : EncodedLength.Statement .add_HL_SP := fun _ => show (1 : Nat) = lengthOf 0x39 by decide
theorem EncodedLength.ld_A_mHLdec : EncodedLength.Statement .ld_A_mHLdec := fun _ => show (1 : Nat) = lengthOf 0x3A by decide
theorem EncodedLength.dec_SP : EncodedLength.Statement .dec_SP := fun _ => show (1 : Nat) = lengthOf 0x3B by decide
theorem EncodedLength.inc_A : EncodedLength.Statement .inc_A := fun _ => show (1 : Nat) = lengthOf 0x3C by decide
theorem EncodedLength.dec_A : EncodedLength.Statement .dec_A := fun _ => show (1 : Nat) = lengthOf 0x3D by decide
theorem EncodedLength.ccf : EncodedLength.Statement .ccf := fun _ => show (1 : Nat) = lengthOf 0x3F by decide
theorem EncodedLength.ld_B_B : EncodedLength.Statement .ld_B_B := fun _ => show (1 : Nat) = lengthOf 0x40 by decide
theorem EncodedLength.ld_B_C : EncodedLength.Statement .ld_B_C := fun _ => show (1 : Nat) = lengthOf 0x41 by decide
theorem EncodedLength.ld_B_D : EncodedLength.Statement .ld_B_D := fun _ => show (1 : Nat) = lengthOf 0x42 by decide
theorem EncodedLength.ld_B_E : EncodedLength.Statement .ld_B_E := fun _ => show (1 : Nat) = lengthOf 0x43 by decide
theorem EncodedLength.ld_B_H : EncodedLength.Statement .ld_B_H := fun _ => show (1 : Nat) = lengthOf 0x44 by decide
theorem EncodedLength.ld_B_L : EncodedLength.Statement .ld_B_L := fun _ => show (1 : Nat) = lengthOf 0x45 by decide
theorem EncodedLength.ld_B_mHL : EncodedLength.Statement .ld_B_mHL := fun _ => show (1 : Nat) = lengthOf 0x46 by decide
theorem EncodedLength.ld_B_A : EncodedLength.Statement .ld_B_A := fun _ => show (1 : Nat) = lengthOf 0x47 by decide
theorem EncodedLength.ld_C_B : EncodedLength.Statement .ld_C_B := fun _ => show (1 : Nat) = lengthOf 0x48 by decide
theorem EncodedLength.ld_C_C : EncodedLength.Statement .ld_C_C := fun _ => show (1 : Nat) = lengthOf 0x49 by decide
theorem EncodedLength.ld_C_D : EncodedLength.Statement .ld_C_D := fun _ => show (1 : Nat) = lengthOf 0x4A by decide
theorem EncodedLength.ld_C_E : EncodedLength.Statement .ld_C_E := fun _ => show (1 : Nat) = lengthOf 0x4B by decide
theorem EncodedLength.ld_C_H : EncodedLength.Statement .ld_C_H := fun _ => show (1 : Nat) = lengthOf 0x4C by decide
theorem EncodedLength.ld_C_L : EncodedLength.Statement .ld_C_L := fun _ => show (1 : Nat) = lengthOf 0x4D by decide
theorem EncodedLength.ld_C_mHL : EncodedLength.Statement .ld_C_mHL := fun _ => show (1 : Nat) = lengthOf 0x4E by decide
theorem EncodedLength.ld_C_A : EncodedLength.Statement .ld_C_A := fun _ => show (1 : Nat) = lengthOf 0x4F by decide
theorem EncodedLength.ld_D_B : EncodedLength.Statement .ld_D_B := fun _ => show (1 : Nat) = lengthOf 0x50 by decide
theorem EncodedLength.ld_D_C : EncodedLength.Statement .ld_D_C := fun _ => show (1 : Nat) = lengthOf 0x51 by decide
theorem EncodedLength.ld_D_D : EncodedLength.Statement .ld_D_D := fun _ => show (1 : Nat) = lengthOf 0x52 by decide
theorem EncodedLength.ld_D_E : EncodedLength.Statement .ld_D_E := fun _ => show (1 : Nat) = lengthOf 0x53 by decide
theorem EncodedLength.ld_D_H : EncodedLength.Statement .ld_D_H := fun _ => show (1 : Nat) = lengthOf 0x54 by decide
theorem EncodedLength.ld_D_L : EncodedLength.Statement .ld_D_L := fun _ => show (1 : Nat) = lengthOf 0x55 by decide
theorem EncodedLength.ld_D_mHL : EncodedLength.Statement .ld_D_mHL := fun _ => show (1 : Nat) = lengthOf 0x56 by decide
theorem EncodedLength.ld_D_A : EncodedLength.Statement .ld_D_A := fun _ => show (1 : Nat) = lengthOf 0x57 by decide
theorem EncodedLength.ld_E_B : EncodedLength.Statement .ld_E_B := fun _ => show (1 : Nat) = lengthOf 0x58 by decide
theorem EncodedLength.ld_E_C : EncodedLength.Statement .ld_E_C := fun _ => show (1 : Nat) = lengthOf 0x59 by decide
theorem EncodedLength.ld_E_D : EncodedLength.Statement .ld_E_D := fun _ => show (1 : Nat) = lengthOf 0x5A by decide
theorem EncodedLength.ld_E_E : EncodedLength.Statement .ld_E_E := fun _ => show (1 : Nat) = lengthOf 0x5B by decide
theorem EncodedLength.ld_E_H : EncodedLength.Statement .ld_E_H := fun _ => show (1 : Nat) = lengthOf 0x5C by decide
theorem EncodedLength.ld_E_L : EncodedLength.Statement .ld_E_L := fun _ => show (1 : Nat) = lengthOf 0x5D by decide
theorem EncodedLength.ld_E_mHL : EncodedLength.Statement .ld_E_mHL := fun _ => show (1 : Nat) = lengthOf 0x5E by decide
theorem EncodedLength.ld_E_A : EncodedLength.Statement .ld_E_A := fun _ => show (1 : Nat) = lengthOf 0x5F by decide
theorem EncodedLength.ld_H_B : EncodedLength.Statement .ld_H_B := fun _ => show (1 : Nat) = lengthOf 0x60 by decide
theorem EncodedLength.ld_H_C : EncodedLength.Statement .ld_H_C := fun _ => show (1 : Nat) = lengthOf 0x61 by decide
theorem EncodedLength.ld_H_D : EncodedLength.Statement .ld_H_D := fun _ => show (1 : Nat) = lengthOf 0x62 by decide
theorem EncodedLength.ld_H_E : EncodedLength.Statement .ld_H_E := fun _ => show (1 : Nat) = lengthOf 0x63 by decide
theorem EncodedLength.ld_H_H : EncodedLength.Statement .ld_H_H := fun _ => show (1 : Nat) = lengthOf 0x64 by decide
theorem EncodedLength.ld_H_L : EncodedLength.Statement .ld_H_L := fun _ => show (1 : Nat) = lengthOf 0x65 by decide
theorem EncodedLength.ld_H_mHL : EncodedLength.Statement .ld_H_mHL := fun _ => show (1 : Nat) = lengthOf 0x66 by decide
theorem EncodedLength.ld_H_A : EncodedLength.Statement .ld_H_A := fun _ => show (1 : Nat) = lengthOf 0x67 by decide
theorem EncodedLength.ld_L_B : EncodedLength.Statement .ld_L_B := fun _ => show (1 : Nat) = lengthOf 0x68 by decide
theorem EncodedLength.ld_L_C : EncodedLength.Statement .ld_L_C := fun _ => show (1 : Nat) = lengthOf 0x69 by decide
theorem EncodedLength.ld_L_D : EncodedLength.Statement .ld_L_D := fun _ => show (1 : Nat) = lengthOf 0x6A by decide
theorem EncodedLength.ld_L_E : EncodedLength.Statement .ld_L_E := fun _ => show (1 : Nat) = lengthOf 0x6B by decide
theorem EncodedLength.ld_L_H : EncodedLength.Statement .ld_L_H := fun _ => show (1 : Nat) = lengthOf 0x6C by decide
theorem EncodedLength.ld_L_L : EncodedLength.Statement .ld_L_L := fun _ => show (1 : Nat) = lengthOf 0x6D by decide
theorem EncodedLength.ld_L_mHL : EncodedLength.Statement .ld_L_mHL := fun _ => show (1 : Nat) = lengthOf 0x6E by decide
theorem EncodedLength.ld_L_A : EncodedLength.Statement .ld_L_A := fun _ => show (1 : Nat) = lengthOf 0x6F by decide
theorem EncodedLength.ld_mHL_B : EncodedLength.Statement .ld_mHL_B := fun _ => show (1 : Nat) = lengthOf 0x70 by decide
theorem EncodedLength.ld_mHL_C : EncodedLength.Statement .ld_mHL_C := fun _ => show (1 : Nat) = lengthOf 0x71 by decide
theorem EncodedLength.ld_mHL_D : EncodedLength.Statement .ld_mHL_D := fun _ => show (1 : Nat) = lengthOf 0x72 by decide
theorem EncodedLength.ld_mHL_E : EncodedLength.Statement .ld_mHL_E := fun _ => show (1 : Nat) = lengthOf 0x73 by decide
theorem EncodedLength.ld_mHL_H : EncodedLength.Statement .ld_mHL_H := fun _ => show (1 : Nat) = lengthOf 0x74 by decide
theorem EncodedLength.ld_mHL_L : EncodedLength.Statement .ld_mHL_L := fun _ => show (1 : Nat) = lengthOf 0x75 by decide
theorem EncodedLength.halt : EncodedLength.Statement .halt := fun _ => show (1 : Nat) = lengthOf 0x76 by decide
theorem EncodedLength.ld_mHL_A : EncodedLength.Statement .ld_mHL_A := fun _ => show (1 : Nat) = lengthOf 0x77 by decide
theorem EncodedLength.ld_A_B : EncodedLength.Statement .ld_A_B := fun _ => show (1 : Nat) = lengthOf 0x78 by decide
theorem EncodedLength.ld_A_C : EncodedLength.Statement .ld_A_C := fun _ => show (1 : Nat) = lengthOf 0x79 by decide
theorem EncodedLength.ld_A_D : EncodedLength.Statement .ld_A_D := fun _ => show (1 : Nat) = lengthOf 0x7A by decide
theorem EncodedLength.ld_A_E : EncodedLength.Statement .ld_A_E := fun _ => show (1 : Nat) = lengthOf 0x7B by decide
theorem EncodedLength.ld_A_H : EncodedLength.Statement .ld_A_H := fun _ => show (1 : Nat) = lengthOf 0x7C by decide
theorem EncodedLength.ld_A_L : EncodedLength.Statement .ld_A_L := fun _ => show (1 : Nat) = lengthOf 0x7D by decide
theorem EncodedLength.ld_A_mHL : EncodedLength.Statement .ld_A_mHL := fun _ => show (1 : Nat) = lengthOf 0x7E by decide
theorem EncodedLength.ld_A_A : EncodedLength.Statement .ld_A_A := fun _ => show (1 : Nat) = lengthOf 0x7F by decide
theorem EncodedLength.add_A_B : EncodedLength.Statement .add_A_B := fun _ => show (1 : Nat) = lengthOf 0x80 by decide
theorem EncodedLength.add_A_C : EncodedLength.Statement .add_A_C := fun _ => show (1 : Nat) = lengthOf 0x81 by decide
theorem EncodedLength.add_A_D : EncodedLength.Statement .add_A_D := fun _ => show (1 : Nat) = lengthOf 0x82 by decide
theorem EncodedLength.add_A_E : EncodedLength.Statement .add_A_E := fun _ => show (1 : Nat) = lengthOf 0x83 by decide
theorem EncodedLength.add_A_H : EncodedLength.Statement .add_A_H := fun _ => show (1 : Nat) = lengthOf 0x84 by decide
theorem EncodedLength.add_A_L : EncodedLength.Statement .add_A_L := fun _ => show (1 : Nat) = lengthOf 0x85 by decide
theorem EncodedLength.add_A_mHL : EncodedLength.Statement .add_A_mHL := fun _ => show (1 : Nat) = lengthOf 0x86 by decide
theorem EncodedLength.add_A_A : EncodedLength.Statement .add_A_A := fun _ => show (1 : Nat) = lengthOf 0x87 by decide
theorem EncodedLength.adc_A_B : EncodedLength.Statement .adc_A_B := fun _ => show (1 : Nat) = lengthOf 0x88 by decide
theorem EncodedLength.adc_A_C : EncodedLength.Statement .adc_A_C := fun _ => show (1 : Nat) = lengthOf 0x89 by decide
theorem EncodedLength.adc_A_D : EncodedLength.Statement .adc_A_D := fun _ => show (1 : Nat) = lengthOf 0x8A by decide
theorem EncodedLength.adc_A_E : EncodedLength.Statement .adc_A_E := fun _ => show (1 : Nat) = lengthOf 0x8B by decide
theorem EncodedLength.adc_A_H : EncodedLength.Statement .adc_A_H := fun _ => show (1 : Nat) = lengthOf 0x8C by decide
theorem EncodedLength.adc_A_L : EncodedLength.Statement .adc_A_L := fun _ => show (1 : Nat) = lengthOf 0x8D by decide
theorem EncodedLength.adc_A_mHL : EncodedLength.Statement .adc_A_mHL := fun _ => show (1 : Nat) = lengthOf 0x8E by decide
theorem EncodedLength.adc_A_A : EncodedLength.Statement .adc_A_A := fun _ => show (1 : Nat) = lengthOf 0x8F by decide
theorem EncodedLength.sub_B : EncodedLength.Statement .sub_B := fun _ => show (1 : Nat) = lengthOf 0x90 by decide
theorem EncodedLength.sub_C : EncodedLength.Statement .sub_C := fun _ => show (1 : Nat) = lengthOf 0x91 by decide
theorem EncodedLength.sub_D : EncodedLength.Statement .sub_D := fun _ => show (1 : Nat) = lengthOf 0x92 by decide
theorem EncodedLength.sub_E : EncodedLength.Statement .sub_E := fun _ => show (1 : Nat) = lengthOf 0x93 by decide
theorem EncodedLength.sub_H : EncodedLength.Statement .sub_H := fun _ => show (1 : Nat) = lengthOf 0x94 by decide
theorem EncodedLength.sub_L : EncodedLength.Statement .sub_L := fun _ => show (1 : Nat) = lengthOf 0x95 by decide
theorem EncodedLength.sub_mHL : EncodedLength.Statement .sub_mHL := fun _ => show (1 : Nat) = lengthOf 0x96 by decide
theorem EncodedLength.sub_A : EncodedLength.Statement .sub_A := fun _ => show (1 : Nat) = lengthOf 0x97 by decide
theorem EncodedLength.sbc_A_B : EncodedLength.Statement .sbc_A_B := fun _ => show (1 : Nat) = lengthOf 0x98 by decide
theorem EncodedLength.sbc_A_C : EncodedLength.Statement .sbc_A_C := fun _ => show (1 : Nat) = lengthOf 0x99 by decide
theorem EncodedLength.sbc_A_D : EncodedLength.Statement .sbc_A_D := fun _ => show (1 : Nat) = lengthOf 0x9A by decide
theorem EncodedLength.sbc_A_E : EncodedLength.Statement .sbc_A_E := fun _ => show (1 : Nat) = lengthOf 0x9B by decide
theorem EncodedLength.sbc_A_H : EncodedLength.Statement .sbc_A_H := fun _ => show (1 : Nat) = lengthOf 0x9C by decide
theorem EncodedLength.sbc_A_L : EncodedLength.Statement .sbc_A_L := fun _ => show (1 : Nat) = lengthOf 0x9D by decide
theorem EncodedLength.sbc_A_mHL : EncodedLength.Statement .sbc_A_mHL := fun _ => show (1 : Nat) = lengthOf 0x9E by decide
theorem EncodedLength.sbc_A_A : EncodedLength.Statement .sbc_A_A := fun _ => show (1 : Nat) = lengthOf 0x9F by decide
theorem EncodedLength.and_B : EncodedLength.Statement .and_B := fun _ => show (1 : Nat) = lengthOf 0xA0 by decide
theorem EncodedLength.and_C : EncodedLength.Statement .and_C := fun _ => show (1 : Nat) = lengthOf 0xA1 by decide
theorem EncodedLength.and_D : EncodedLength.Statement .and_D := fun _ => show (1 : Nat) = lengthOf 0xA2 by decide
theorem EncodedLength.and_E : EncodedLength.Statement .and_E := fun _ => show (1 : Nat) = lengthOf 0xA3 by decide
theorem EncodedLength.and_H : EncodedLength.Statement .and_H := fun _ => show (1 : Nat) = lengthOf 0xA4 by decide
theorem EncodedLength.and_L : EncodedLength.Statement .and_L := fun _ => show (1 : Nat) = lengthOf 0xA5 by decide
theorem EncodedLength.and_mHL : EncodedLength.Statement .and_mHL := fun _ => show (1 : Nat) = lengthOf 0xA6 by decide
theorem EncodedLength.and_A : EncodedLength.Statement .and_A := fun _ => show (1 : Nat) = lengthOf 0xA7 by decide
theorem EncodedLength.xor_B : EncodedLength.Statement .xor_B := fun _ => show (1 : Nat) = lengthOf 0xA8 by decide
theorem EncodedLength.xor_C : EncodedLength.Statement .xor_C := fun _ => show (1 : Nat) = lengthOf 0xA9 by decide
theorem EncodedLength.xor_D : EncodedLength.Statement .xor_D := fun _ => show (1 : Nat) = lengthOf 0xAA by decide
theorem EncodedLength.xor_E : EncodedLength.Statement .xor_E := fun _ => show (1 : Nat) = lengthOf 0xAB by decide
theorem EncodedLength.xor_H : EncodedLength.Statement .xor_H := fun _ => show (1 : Nat) = lengthOf 0xAC by decide
theorem EncodedLength.xor_L : EncodedLength.Statement .xor_L := fun _ => show (1 : Nat) = lengthOf 0xAD by decide
theorem EncodedLength.xor_mHL : EncodedLength.Statement .xor_mHL := fun _ => show (1 : Nat) = lengthOf 0xAE by decide
theorem EncodedLength.xor_A : EncodedLength.Statement .xor_A := fun _ => show (1 : Nat) = lengthOf 0xAF by decide
theorem EncodedLength.or_B : EncodedLength.Statement .or_B := fun _ => show (1 : Nat) = lengthOf 0xB0 by decide
theorem EncodedLength.or_C : EncodedLength.Statement .or_C := fun _ => show (1 : Nat) = lengthOf 0xB1 by decide
theorem EncodedLength.or_D : EncodedLength.Statement .or_D := fun _ => show (1 : Nat) = lengthOf 0xB2 by decide
theorem EncodedLength.or_E : EncodedLength.Statement .or_E := fun _ => show (1 : Nat) = lengthOf 0xB3 by decide
theorem EncodedLength.or_H : EncodedLength.Statement .or_H := fun _ => show (1 : Nat) = lengthOf 0xB4 by decide
theorem EncodedLength.or_L : EncodedLength.Statement .or_L := fun _ => show (1 : Nat) = lengthOf 0xB5 by decide
theorem EncodedLength.or_mHL : EncodedLength.Statement .or_mHL := fun _ => show (1 : Nat) = lengthOf 0xB6 by decide
theorem EncodedLength.or_A : EncodedLength.Statement .or_A := fun _ => show (1 : Nat) = lengthOf 0xB7 by decide
theorem EncodedLength.cp_B : EncodedLength.Statement .cp_B := fun _ => show (1 : Nat) = lengthOf 0xB8 by decide
theorem EncodedLength.cp_C : EncodedLength.Statement .cp_C := fun _ => show (1 : Nat) = lengthOf 0xB9 by decide
theorem EncodedLength.cp_D : EncodedLength.Statement .cp_D := fun _ => show (1 : Nat) = lengthOf 0xBA by decide
theorem EncodedLength.cp_E : EncodedLength.Statement .cp_E := fun _ => show (1 : Nat) = lengthOf 0xBB by decide
theorem EncodedLength.cp_H : EncodedLength.Statement .cp_H := fun _ => show (1 : Nat) = lengthOf 0xBC by decide
theorem EncodedLength.cp_L : EncodedLength.Statement .cp_L := fun _ => show (1 : Nat) = lengthOf 0xBD by decide
theorem EncodedLength.cp_mHL : EncodedLength.Statement .cp_mHL := fun _ => show (1 : Nat) = lengthOf 0xBE by decide
theorem EncodedLength.cp_A : EncodedLength.Statement .cp_A := fun _ => show (1 : Nat) = lengthOf 0xBF by decide
theorem EncodedLength.ret_NZ : EncodedLength.Statement .ret_NZ := fun _ => show (1 : Nat) = lengthOf 0xC0 by decide
theorem EncodedLength.pop_BC : EncodedLength.Statement .pop_BC := fun _ => show (1 : Nat) = lengthOf 0xC1 by decide
theorem EncodedLength.push_BC : EncodedLength.Statement .push_BC := fun _ => show (1 : Nat) = lengthOf 0xC5 by decide
theorem EncodedLength.rst_0x00 : EncodedLength.Statement .rst_0x00 := fun _ => show (1 : Nat) = lengthOf 0xC7 by decide
theorem EncodedLength.ret_Z : EncodedLength.Statement .ret_Z := fun _ => show (1 : Nat) = lengthOf 0xC8 by decide
theorem EncodedLength.ret : EncodedLength.Statement .ret := fun _ => show (1 : Nat) = lengthOf 0xC9 by decide
theorem EncodedLength.rst_0x08 : EncodedLength.Statement .rst_0x08 := fun _ => show (1 : Nat) = lengthOf 0xCF by decide
theorem EncodedLength.ret_NC : EncodedLength.Statement .ret_NC := fun _ => show (1 : Nat) = lengthOf 0xD0 by decide
theorem EncodedLength.pop_DE : EncodedLength.Statement .pop_DE := fun _ => show (1 : Nat) = lengthOf 0xD1 by decide
theorem EncodedLength.push_DE : EncodedLength.Statement .push_DE := fun _ => show (1 : Nat) = lengthOf 0xD5 by decide
theorem EncodedLength.rst_0x10 : EncodedLength.Statement .rst_0x10 := fun _ => show (1 : Nat) = lengthOf 0xD7 by decide
theorem EncodedLength.ret_C : EncodedLength.Statement .ret_C := fun _ => show (1 : Nat) = lengthOf 0xD8 by decide
theorem EncodedLength.reti : EncodedLength.Statement .reti := fun _ => show (1 : Nat) = lengthOf 0xD9 by decide
theorem EncodedLength.rst_0x18 : EncodedLength.Statement .rst_0x18 := fun _ => show (1 : Nat) = lengthOf 0xDF by decide
theorem EncodedLength.pop_HL : EncodedLength.Statement .pop_HL := fun _ => show (1 : Nat) = lengthOf 0xE1 by decide
theorem EncodedLength.ld_mC_A : EncodedLength.Statement .ld_mC_A := fun _ => show (1 : Nat) = lengthOf 0xE2 by decide
theorem EncodedLength.push_HL : EncodedLength.Statement .push_HL := fun _ => show (1 : Nat) = lengthOf 0xE5 by decide
theorem EncodedLength.rst_0x20 : EncodedLength.Statement .rst_0x20 := fun _ => show (1 : Nat) = lengthOf 0xE7 by decide
theorem EncodedLength.jp_HL : EncodedLength.Statement .jp_HL := fun _ => show (1 : Nat) = lengthOf 0xE9 by decide
theorem EncodedLength.rst_0x28 : EncodedLength.Statement .rst_0x28 := fun _ => show (1 : Nat) = lengthOf 0xEF by decide
theorem EncodedLength.pop_AF : EncodedLength.Statement .pop_AF := fun _ => show (1 : Nat) = lengthOf 0xF1 by decide
theorem EncodedLength.ld_A_mC : EncodedLength.Statement .ld_A_mC := fun _ => show (1 : Nat) = lengthOf 0xF2 by decide
theorem EncodedLength.di : EncodedLength.Statement .di := fun _ => show (1 : Nat) = lengthOf 0xF3 by decide
theorem EncodedLength.push_AF : EncodedLength.Statement .push_AF := fun _ => show (1 : Nat) = lengthOf 0xF5 by decide
theorem EncodedLength.rst_0x30 : EncodedLength.Statement .rst_0x30 := fun _ => show (1 : Nat) = lengthOf 0xF7 by decide
theorem EncodedLength.ld_SP_HL : EncodedLength.Statement .ld_SP_HL := fun _ => show (1 : Nat) = lengthOf 0xF9 by decide
theorem EncodedLength.ei : EncodedLength.Statement .ei := fun _ => show (1 : Nat) = lengthOf 0xFB by decide
theorem EncodedLength.rst_0x38 : EncodedLength.Statement .rst_0x38 := fun _ => show (1 : Nat) = lengthOf 0xFF by decide
theorem EncodedLength.rlc_B : EncodedLength.Statement .rlc_B := fun _ => show (2 : Nat) = lengthOf 0xCB by decide
theorem EncodedLength.rlc_C : EncodedLength.Statement .rlc_C := fun _ => show (2 : Nat) = lengthOf 0xCB by decide
theorem EncodedLength.rlc_D : EncodedLength.Statement .rlc_D := fun _ => show (2 : Nat) = lengthOf 0xCB by decide
theorem EncodedLength.rlc_E : EncodedLength.Statement .rlc_E := fun _ => show (2 : Nat) = lengthOf 0xCB by decide
theorem EncodedLength.rlc_H : EncodedLength.Statement .rlc_H := fun _ => show (2 : Nat) = lengthOf 0xCB by decide
theorem EncodedLength.rlc_L : EncodedLength.Statement .rlc_L := fun _ => show (2 : Nat) = lengthOf 0xCB by decide
theorem EncodedLength.rlc_mHL : EncodedLength.Statement .rlc_mHL := fun _ => show (2 : Nat) = lengthOf 0xCB by decide
theorem EncodedLength.rlc_A : EncodedLength.Statement .rlc_A := fun _ => show (2 : Nat) = lengthOf 0xCB by decide
theorem EncodedLength.rrc_B : EncodedLength.Statement .rrc_B := fun _ => show (2 : Nat) = lengthOf 0xCB by decide
theorem EncodedLength.rrc_C : EncodedLength.Statement .rrc_C := fun _ => show (2 : Nat) = lengthOf 0xCB by decide
theorem EncodedLength.rrc_D : EncodedLength.Statement .rrc_D := fun _ => show (2 : Nat) = lengthOf 0xCB by decide
theorem EncodedLength.rrc_E : EncodedLength.Statement .rrc_E := fun _ => show (2 : Nat) = lengthOf 0xCB by decide
theorem EncodedLength.rrc_H : EncodedLength.Statement .rrc_H := fun _ => show (2 : Nat) = lengthOf 0xCB by decide
theorem EncodedLength.rrc_L : EncodedLength.Statement .rrc_L := fun _ => show (2 : Nat) = lengthOf 0xCB by decide
theorem EncodedLength.rrc_mHL : EncodedLength.Statement .rrc_mHL := fun _ => show (2 : Nat) = lengthOf 0xCB by decide
theorem EncodedLength.rrc_A : EncodedLength.Statement .rrc_A := fun _ => show (2 : Nat) = lengthOf 0xCB by decide
theorem EncodedLength.rl_B : EncodedLength.Statement .rl_B := fun _ => show (2 : Nat) = lengthOf 0xCB by decide
theorem EncodedLength.rl_C : EncodedLength.Statement .rl_C := fun _ => show (2 : Nat) = lengthOf 0xCB by decide
theorem EncodedLength.rl_D : EncodedLength.Statement .rl_D := fun _ => show (2 : Nat) = lengthOf 0xCB by decide
theorem EncodedLength.rl_E : EncodedLength.Statement .rl_E := fun _ => show (2 : Nat) = lengthOf 0xCB by decide
theorem EncodedLength.rl_H : EncodedLength.Statement .rl_H := fun _ => show (2 : Nat) = lengthOf 0xCB by decide
theorem EncodedLength.rl_L : EncodedLength.Statement .rl_L := fun _ => show (2 : Nat) = lengthOf 0xCB by decide
theorem EncodedLength.rl_mHL : EncodedLength.Statement .rl_mHL := fun _ => show (2 : Nat) = lengthOf 0xCB by decide
theorem EncodedLength.rl_A : EncodedLength.Statement .rl_A := fun _ => show (2 : Nat) = lengthOf 0xCB by decide
theorem EncodedLength.rr_B : EncodedLength.Statement .rr_B := fun _ => show (2 : Nat) = lengthOf 0xCB by decide
theorem EncodedLength.rr_C : EncodedLength.Statement .rr_C := fun _ => show (2 : Nat) = lengthOf 0xCB by decide
theorem EncodedLength.rr_D : EncodedLength.Statement .rr_D := fun _ => show (2 : Nat) = lengthOf 0xCB by decide
theorem EncodedLength.rr_E : EncodedLength.Statement .rr_E := fun _ => show (2 : Nat) = lengthOf 0xCB by decide
theorem EncodedLength.rr_H : EncodedLength.Statement .rr_H := fun _ => show (2 : Nat) = lengthOf 0xCB by decide
theorem EncodedLength.rr_L : EncodedLength.Statement .rr_L := fun _ => show (2 : Nat) = lengthOf 0xCB by decide
theorem EncodedLength.rr_mHL : EncodedLength.Statement .rr_mHL := fun _ => show (2 : Nat) = lengthOf 0xCB by decide
theorem EncodedLength.rr_A : EncodedLength.Statement .rr_A := fun _ => show (2 : Nat) = lengthOf 0xCB by decide
theorem EncodedLength.sla_B : EncodedLength.Statement .sla_B := fun _ => show (2 : Nat) = lengthOf 0xCB by decide
theorem EncodedLength.sla_C : EncodedLength.Statement .sla_C := fun _ => show (2 : Nat) = lengthOf 0xCB by decide
theorem EncodedLength.sla_D : EncodedLength.Statement .sla_D := fun _ => show (2 : Nat) = lengthOf 0xCB by decide
theorem EncodedLength.sla_E : EncodedLength.Statement .sla_E := fun _ => show (2 : Nat) = lengthOf 0xCB by decide
theorem EncodedLength.sla_H : EncodedLength.Statement .sla_H := fun _ => show (2 : Nat) = lengthOf 0xCB by decide
theorem EncodedLength.sla_L : EncodedLength.Statement .sla_L := fun _ => show (2 : Nat) = lengthOf 0xCB by decide
theorem EncodedLength.sla_mHL : EncodedLength.Statement .sla_mHL := fun _ => show (2 : Nat) = lengthOf 0xCB by decide
theorem EncodedLength.sla_A : EncodedLength.Statement .sla_A := fun _ => show (2 : Nat) = lengthOf 0xCB by decide
theorem EncodedLength.sra_B : EncodedLength.Statement .sra_B := fun _ => show (2 : Nat) = lengthOf 0xCB by decide
theorem EncodedLength.sra_C : EncodedLength.Statement .sra_C := fun _ => show (2 : Nat) = lengthOf 0xCB by decide
theorem EncodedLength.sra_D : EncodedLength.Statement .sra_D := fun _ => show (2 : Nat) = lengthOf 0xCB by decide
theorem EncodedLength.sra_E : EncodedLength.Statement .sra_E := fun _ => show (2 : Nat) = lengthOf 0xCB by decide
theorem EncodedLength.sra_H : EncodedLength.Statement .sra_H := fun _ => show (2 : Nat) = lengthOf 0xCB by decide
theorem EncodedLength.sra_L : EncodedLength.Statement .sra_L := fun _ => show (2 : Nat) = lengthOf 0xCB by decide
theorem EncodedLength.sra_mHL : EncodedLength.Statement .sra_mHL := fun _ => show (2 : Nat) = lengthOf 0xCB by decide
theorem EncodedLength.sra_A : EncodedLength.Statement .sra_A := fun _ => show (2 : Nat) = lengthOf 0xCB by decide
theorem EncodedLength.swap_B : EncodedLength.Statement .swap_B := fun _ => show (2 : Nat) = lengthOf 0xCB by decide
theorem EncodedLength.swap_C : EncodedLength.Statement .swap_C := fun _ => show (2 : Nat) = lengthOf 0xCB by decide
theorem EncodedLength.swap_D : EncodedLength.Statement .swap_D := fun _ => show (2 : Nat) = lengthOf 0xCB by decide
theorem EncodedLength.swap_E : EncodedLength.Statement .swap_E := fun _ => show (2 : Nat) = lengthOf 0xCB by decide
theorem EncodedLength.swap_H : EncodedLength.Statement .swap_H := fun _ => show (2 : Nat) = lengthOf 0xCB by decide
theorem EncodedLength.swap_L : EncodedLength.Statement .swap_L := fun _ => show (2 : Nat) = lengthOf 0xCB by decide
theorem EncodedLength.swap_mHL : EncodedLength.Statement .swap_mHL := fun _ => show (2 : Nat) = lengthOf 0xCB by decide
theorem EncodedLength.swap_A : EncodedLength.Statement .swap_A := fun _ => show (2 : Nat) = lengthOf 0xCB by decide
theorem EncodedLength.srl_B : EncodedLength.Statement .srl_B := fun _ => show (2 : Nat) = lengthOf 0xCB by decide
theorem EncodedLength.srl_C : EncodedLength.Statement .srl_C := fun _ => show (2 : Nat) = lengthOf 0xCB by decide
theorem EncodedLength.srl_D : EncodedLength.Statement .srl_D := fun _ => show (2 : Nat) = lengthOf 0xCB by decide
theorem EncodedLength.srl_E : EncodedLength.Statement .srl_E := fun _ => show (2 : Nat) = lengthOf 0xCB by decide
theorem EncodedLength.srl_H : EncodedLength.Statement .srl_H := fun _ => show (2 : Nat) = lengthOf 0xCB by decide
theorem EncodedLength.srl_L : EncodedLength.Statement .srl_L := fun _ => show (2 : Nat) = lengthOf 0xCB by decide
theorem EncodedLength.srl_mHL : EncodedLength.Statement .srl_mHL := fun _ => show (2 : Nat) = lengthOf 0xCB by decide
theorem EncodedLength.srl_A : EncodedLength.Statement .srl_A := fun _ => show (2 : Nat) = lengthOf 0xCB by decide
theorem EncodedLength.bit_0_B : EncodedLength.Statement .bit_0_B := fun _ => show (2 : Nat) = lengthOf 0xCB by decide
theorem EncodedLength.bit_0_C : EncodedLength.Statement .bit_0_C := fun _ => show (2 : Nat) = lengthOf 0xCB by decide
theorem EncodedLength.bit_0_D : EncodedLength.Statement .bit_0_D := fun _ => show (2 : Nat) = lengthOf 0xCB by decide
theorem EncodedLength.bit_0_E : EncodedLength.Statement .bit_0_E := fun _ => show (2 : Nat) = lengthOf 0xCB by decide
theorem EncodedLength.bit_0_H : EncodedLength.Statement .bit_0_H := fun _ => show (2 : Nat) = lengthOf 0xCB by decide
theorem EncodedLength.bit_0_L : EncodedLength.Statement .bit_0_L := fun _ => show (2 : Nat) = lengthOf 0xCB by decide
theorem EncodedLength.bit_0_mHL : EncodedLength.Statement .bit_0_mHL := fun _ => show (2 : Nat) = lengthOf 0xCB by decide
theorem EncodedLength.bit_0_A : EncodedLength.Statement .bit_0_A := fun _ => show (2 : Nat) = lengthOf 0xCB by decide
theorem EncodedLength.bit_1_B : EncodedLength.Statement .bit_1_B := fun _ => show (2 : Nat) = lengthOf 0xCB by decide
theorem EncodedLength.bit_1_C : EncodedLength.Statement .bit_1_C := fun _ => show (2 : Nat) = lengthOf 0xCB by decide
theorem EncodedLength.bit_1_D : EncodedLength.Statement .bit_1_D := fun _ => show (2 : Nat) = lengthOf 0xCB by decide
theorem EncodedLength.bit_1_E : EncodedLength.Statement .bit_1_E := fun _ => show (2 : Nat) = lengthOf 0xCB by decide
theorem EncodedLength.bit_1_H : EncodedLength.Statement .bit_1_H := fun _ => show (2 : Nat) = lengthOf 0xCB by decide
theorem EncodedLength.bit_1_L : EncodedLength.Statement .bit_1_L := fun _ => show (2 : Nat) = lengthOf 0xCB by decide
theorem EncodedLength.bit_1_mHL : EncodedLength.Statement .bit_1_mHL := fun _ => show (2 : Nat) = lengthOf 0xCB by decide
theorem EncodedLength.bit_1_A : EncodedLength.Statement .bit_1_A := fun _ => show (2 : Nat) = lengthOf 0xCB by decide
theorem EncodedLength.bit_2_B : EncodedLength.Statement .bit_2_B := fun _ => show (2 : Nat) = lengthOf 0xCB by decide
theorem EncodedLength.bit_2_C : EncodedLength.Statement .bit_2_C := fun _ => show (2 : Nat) = lengthOf 0xCB by decide
theorem EncodedLength.bit_2_D : EncodedLength.Statement .bit_2_D := fun _ => show (2 : Nat) = lengthOf 0xCB by decide
theorem EncodedLength.bit_2_E : EncodedLength.Statement .bit_2_E := fun _ => show (2 : Nat) = lengthOf 0xCB by decide
theorem EncodedLength.bit_2_H : EncodedLength.Statement .bit_2_H := fun _ => show (2 : Nat) = lengthOf 0xCB by decide
theorem EncodedLength.bit_2_L : EncodedLength.Statement .bit_2_L := fun _ => show (2 : Nat) = lengthOf 0xCB by decide
theorem EncodedLength.bit_2_mHL : EncodedLength.Statement .bit_2_mHL := fun _ => show (2 : Nat) = lengthOf 0xCB by decide
theorem EncodedLength.bit_2_A : EncodedLength.Statement .bit_2_A := fun _ => show (2 : Nat) = lengthOf 0xCB by decide
theorem EncodedLength.bit_3_B : EncodedLength.Statement .bit_3_B := fun _ => show (2 : Nat) = lengthOf 0xCB by decide
theorem EncodedLength.bit_3_C : EncodedLength.Statement .bit_3_C := fun _ => show (2 : Nat) = lengthOf 0xCB by decide
theorem EncodedLength.bit_3_D : EncodedLength.Statement .bit_3_D := fun _ => show (2 : Nat) = lengthOf 0xCB by decide
theorem EncodedLength.bit_3_E : EncodedLength.Statement .bit_3_E := fun _ => show (2 : Nat) = lengthOf 0xCB by decide
theorem EncodedLength.bit_3_H : EncodedLength.Statement .bit_3_H := fun _ => show (2 : Nat) = lengthOf 0xCB by decide
theorem EncodedLength.bit_3_L : EncodedLength.Statement .bit_3_L := fun _ => show (2 : Nat) = lengthOf 0xCB by decide
theorem EncodedLength.bit_3_mHL : EncodedLength.Statement .bit_3_mHL := fun _ => show (2 : Nat) = lengthOf 0xCB by decide
theorem EncodedLength.bit_3_A : EncodedLength.Statement .bit_3_A := fun _ => show (2 : Nat) = lengthOf 0xCB by decide
theorem EncodedLength.bit_4_B : EncodedLength.Statement .bit_4_B := fun _ => show (2 : Nat) = lengthOf 0xCB by decide
theorem EncodedLength.bit_4_C : EncodedLength.Statement .bit_4_C := fun _ => show (2 : Nat) = lengthOf 0xCB by decide
theorem EncodedLength.bit_4_D : EncodedLength.Statement .bit_4_D := fun _ => show (2 : Nat) = lengthOf 0xCB by decide
theorem EncodedLength.bit_4_E : EncodedLength.Statement .bit_4_E := fun _ => show (2 : Nat) = lengthOf 0xCB by decide
theorem EncodedLength.bit_4_H : EncodedLength.Statement .bit_4_H := fun _ => show (2 : Nat) = lengthOf 0xCB by decide
theorem EncodedLength.bit_4_L : EncodedLength.Statement .bit_4_L := fun _ => show (2 : Nat) = lengthOf 0xCB by decide
theorem EncodedLength.bit_4_mHL : EncodedLength.Statement .bit_4_mHL := fun _ => show (2 : Nat) = lengthOf 0xCB by decide
theorem EncodedLength.bit_4_A : EncodedLength.Statement .bit_4_A := fun _ => show (2 : Nat) = lengthOf 0xCB by decide
theorem EncodedLength.bit_5_B : EncodedLength.Statement .bit_5_B := fun _ => show (2 : Nat) = lengthOf 0xCB by decide
theorem EncodedLength.bit_5_C : EncodedLength.Statement .bit_5_C := fun _ => show (2 : Nat) = lengthOf 0xCB by decide
theorem EncodedLength.bit_5_D : EncodedLength.Statement .bit_5_D := fun _ => show (2 : Nat) = lengthOf 0xCB by decide
theorem EncodedLength.bit_5_E : EncodedLength.Statement .bit_5_E := fun _ => show (2 : Nat) = lengthOf 0xCB by decide
theorem EncodedLength.bit_5_H : EncodedLength.Statement .bit_5_H := fun _ => show (2 : Nat) = lengthOf 0xCB by decide
theorem EncodedLength.bit_5_L : EncodedLength.Statement .bit_5_L := fun _ => show (2 : Nat) = lengthOf 0xCB by decide
theorem EncodedLength.bit_5_mHL : EncodedLength.Statement .bit_5_mHL := fun _ => show (2 : Nat) = lengthOf 0xCB by decide
theorem EncodedLength.bit_5_A : EncodedLength.Statement .bit_5_A := fun _ => show (2 : Nat) = lengthOf 0xCB by decide
theorem EncodedLength.bit_6_B : EncodedLength.Statement .bit_6_B := fun _ => show (2 : Nat) = lengthOf 0xCB by decide
theorem EncodedLength.bit_6_C : EncodedLength.Statement .bit_6_C := fun _ => show (2 : Nat) = lengthOf 0xCB by decide
theorem EncodedLength.bit_6_D : EncodedLength.Statement .bit_6_D := fun _ => show (2 : Nat) = lengthOf 0xCB by decide
theorem EncodedLength.bit_6_E : EncodedLength.Statement .bit_6_E := fun _ => show (2 : Nat) = lengthOf 0xCB by decide
theorem EncodedLength.bit_6_H : EncodedLength.Statement .bit_6_H := fun _ => show (2 : Nat) = lengthOf 0xCB by decide
theorem EncodedLength.bit_6_L : EncodedLength.Statement .bit_6_L := fun _ => show (2 : Nat) = lengthOf 0xCB by decide
theorem EncodedLength.bit_6_mHL : EncodedLength.Statement .bit_6_mHL := fun _ => show (2 : Nat) = lengthOf 0xCB by decide
theorem EncodedLength.bit_6_A : EncodedLength.Statement .bit_6_A := fun _ => show (2 : Nat) = lengthOf 0xCB by decide
theorem EncodedLength.bit_7_B : EncodedLength.Statement .bit_7_B := fun _ => show (2 : Nat) = lengthOf 0xCB by decide
theorem EncodedLength.bit_7_C : EncodedLength.Statement .bit_7_C := fun _ => show (2 : Nat) = lengthOf 0xCB by decide
theorem EncodedLength.bit_7_D : EncodedLength.Statement .bit_7_D := fun _ => show (2 : Nat) = lengthOf 0xCB by decide
theorem EncodedLength.bit_7_E : EncodedLength.Statement .bit_7_E := fun _ => show (2 : Nat) = lengthOf 0xCB by decide
theorem EncodedLength.bit_7_H : EncodedLength.Statement .bit_7_H := fun _ => show (2 : Nat) = lengthOf 0xCB by decide
theorem EncodedLength.bit_7_L : EncodedLength.Statement .bit_7_L := fun _ => show (2 : Nat) = lengthOf 0xCB by decide
theorem EncodedLength.bit_7_mHL : EncodedLength.Statement .bit_7_mHL := fun _ => show (2 : Nat) = lengthOf 0xCB by decide
theorem EncodedLength.bit_7_A : EncodedLength.Statement .bit_7_A := fun _ => show (2 : Nat) = lengthOf 0xCB by decide
theorem EncodedLength.res_0_B : EncodedLength.Statement .res_0_B := fun _ => show (2 : Nat) = lengthOf 0xCB by decide
theorem EncodedLength.res_0_C : EncodedLength.Statement .res_0_C := fun _ => show (2 : Nat) = lengthOf 0xCB by decide
theorem EncodedLength.res_0_D : EncodedLength.Statement .res_0_D := fun _ => show (2 : Nat) = lengthOf 0xCB by decide
theorem EncodedLength.res_0_E : EncodedLength.Statement .res_0_E := fun _ => show (2 : Nat) = lengthOf 0xCB by decide
theorem EncodedLength.res_0_H : EncodedLength.Statement .res_0_H := fun _ => show (2 : Nat) = lengthOf 0xCB by decide
theorem EncodedLength.res_0_L : EncodedLength.Statement .res_0_L := fun _ => show (2 : Nat) = lengthOf 0xCB by decide
theorem EncodedLength.res_0_mHL : EncodedLength.Statement .res_0_mHL := fun _ => show (2 : Nat) = lengthOf 0xCB by decide
theorem EncodedLength.res_0_A : EncodedLength.Statement .res_0_A := fun _ => show (2 : Nat) = lengthOf 0xCB by decide
theorem EncodedLength.res_1_B : EncodedLength.Statement .res_1_B := fun _ => show (2 : Nat) = lengthOf 0xCB by decide
theorem EncodedLength.res_1_C : EncodedLength.Statement .res_1_C := fun _ => show (2 : Nat) = lengthOf 0xCB by decide
theorem EncodedLength.res_1_D : EncodedLength.Statement .res_1_D := fun _ => show (2 : Nat) = lengthOf 0xCB by decide
theorem EncodedLength.res_1_E : EncodedLength.Statement .res_1_E := fun _ => show (2 : Nat) = lengthOf 0xCB by decide
theorem EncodedLength.res_1_H : EncodedLength.Statement .res_1_H := fun _ => show (2 : Nat) = lengthOf 0xCB by decide
theorem EncodedLength.res_1_L : EncodedLength.Statement .res_1_L := fun _ => show (2 : Nat) = lengthOf 0xCB by decide
theorem EncodedLength.res_1_mHL : EncodedLength.Statement .res_1_mHL := fun _ => show (2 : Nat) = lengthOf 0xCB by decide
theorem EncodedLength.res_1_A : EncodedLength.Statement .res_1_A := fun _ => show (2 : Nat) = lengthOf 0xCB by decide
theorem EncodedLength.res_2_B : EncodedLength.Statement .res_2_B := fun _ => show (2 : Nat) = lengthOf 0xCB by decide
theorem EncodedLength.res_2_C : EncodedLength.Statement .res_2_C := fun _ => show (2 : Nat) = lengthOf 0xCB by decide
theorem EncodedLength.res_2_D : EncodedLength.Statement .res_2_D := fun _ => show (2 : Nat) = lengthOf 0xCB by decide
theorem EncodedLength.res_2_E : EncodedLength.Statement .res_2_E := fun _ => show (2 : Nat) = lengthOf 0xCB by decide
theorem EncodedLength.res_2_H : EncodedLength.Statement .res_2_H := fun _ => show (2 : Nat) = lengthOf 0xCB by decide
theorem EncodedLength.res_2_L : EncodedLength.Statement .res_2_L := fun _ => show (2 : Nat) = lengthOf 0xCB by decide
theorem EncodedLength.res_2_mHL : EncodedLength.Statement .res_2_mHL := fun _ => show (2 : Nat) = lengthOf 0xCB by decide
theorem EncodedLength.res_2_A : EncodedLength.Statement .res_2_A := fun _ => show (2 : Nat) = lengthOf 0xCB by decide
theorem EncodedLength.res_3_B : EncodedLength.Statement .res_3_B := fun _ => show (2 : Nat) = lengthOf 0xCB by decide
theorem EncodedLength.res_3_C : EncodedLength.Statement .res_3_C := fun _ => show (2 : Nat) = lengthOf 0xCB by decide
theorem EncodedLength.res_3_D : EncodedLength.Statement .res_3_D := fun _ => show (2 : Nat) = lengthOf 0xCB by decide
theorem EncodedLength.res_3_E : EncodedLength.Statement .res_3_E := fun _ => show (2 : Nat) = lengthOf 0xCB by decide
theorem EncodedLength.res_3_H : EncodedLength.Statement .res_3_H := fun _ => show (2 : Nat) = lengthOf 0xCB by decide
theorem EncodedLength.res_3_L : EncodedLength.Statement .res_3_L := fun _ => show (2 : Nat) = lengthOf 0xCB by decide
theorem EncodedLength.res_3_mHL : EncodedLength.Statement .res_3_mHL := fun _ => show (2 : Nat) = lengthOf 0xCB by decide
theorem EncodedLength.res_3_A : EncodedLength.Statement .res_3_A := fun _ => show (2 : Nat) = lengthOf 0xCB by decide
theorem EncodedLength.res_4_B : EncodedLength.Statement .res_4_B := fun _ => show (2 : Nat) = lengthOf 0xCB by decide
theorem EncodedLength.res_4_C : EncodedLength.Statement .res_4_C := fun _ => show (2 : Nat) = lengthOf 0xCB by decide
theorem EncodedLength.res_4_D : EncodedLength.Statement .res_4_D := fun _ => show (2 : Nat) = lengthOf 0xCB by decide
theorem EncodedLength.res_4_E : EncodedLength.Statement .res_4_E := fun _ => show (2 : Nat) = lengthOf 0xCB by decide
theorem EncodedLength.res_4_H : EncodedLength.Statement .res_4_H := fun _ => show (2 : Nat) = lengthOf 0xCB by decide
theorem EncodedLength.res_4_L : EncodedLength.Statement .res_4_L := fun _ => show (2 : Nat) = lengthOf 0xCB by decide
theorem EncodedLength.res_4_mHL : EncodedLength.Statement .res_4_mHL := fun _ => show (2 : Nat) = lengthOf 0xCB by decide
theorem EncodedLength.res_4_A : EncodedLength.Statement .res_4_A := fun _ => show (2 : Nat) = lengthOf 0xCB by decide
theorem EncodedLength.res_5_B : EncodedLength.Statement .res_5_B := fun _ => show (2 : Nat) = lengthOf 0xCB by decide
theorem EncodedLength.res_5_C : EncodedLength.Statement .res_5_C := fun _ => show (2 : Nat) = lengthOf 0xCB by decide
theorem EncodedLength.res_5_D : EncodedLength.Statement .res_5_D := fun _ => show (2 : Nat) = lengthOf 0xCB by decide
theorem EncodedLength.res_5_E : EncodedLength.Statement .res_5_E := fun _ => show (2 : Nat) = lengthOf 0xCB by decide
theorem EncodedLength.res_5_H : EncodedLength.Statement .res_5_H := fun _ => show (2 : Nat) = lengthOf 0xCB by decide
theorem EncodedLength.res_5_L : EncodedLength.Statement .res_5_L := fun _ => show (2 : Nat) = lengthOf 0xCB by decide
theorem EncodedLength.res_5_mHL : EncodedLength.Statement .res_5_mHL := fun _ => show (2 : Nat) = lengthOf 0xCB by decide
theorem EncodedLength.res_5_A : EncodedLength.Statement .res_5_A := fun _ => show (2 : Nat) = lengthOf 0xCB by decide
theorem EncodedLength.res_6_B : EncodedLength.Statement .res_6_B := fun _ => show (2 : Nat) = lengthOf 0xCB by decide
theorem EncodedLength.res_6_C : EncodedLength.Statement .res_6_C := fun _ => show (2 : Nat) = lengthOf 0xCB by decide
theorem EncodedLength.res_6_D : EncodedLength.Statement .res_6_D := fun _ => show (2 : Nat) = lengthOf 0xCB by decide
theorem EncodedLength.res_6_E : EncodedLength.Statement .res_6_E := fun _ => show (2 : Nat) = lengthOf 0xCB by decide
theorem EncodedLength.res_6_H : EncodedLength.Statement .res_6_H := fun _ => show (2 : Nat) = lengthOf 0xCB by decide
theorem EncodedLength.res_6_L : EncodedLength.Statement .res_6_L := fun _ => show (2 : Nat) = lengthOf 0xCB by decide
theorem EncodedLength.res_6_mHL : EncodedLength.Statement .res_6_mHL := fun _ => show (2 : Nat) = lengthOf 0xCB by decide
theorem EncodedLength.res_6_A : EncodedLength.Statement .res_6_A := fun _ => show (2 : Nat) = lengthOf 0xCB by decide
theorem EncodedLength.res_7_B : EncodedLength.Statement .res_7_B := fun _ => show (2 : Nat) = lengthOf 0xCB by decide
theorem EncodedLength.res_7_C : EncodedLength.Statement .res_7_C := fun _ => show (2 : Nat) = lengthOf 0xCB by decide
theorem EncodedLength.res_7_D : EncodedLength.Statement .res_7_D := fun _ => show (2 : Nat) = lengthOf 0xCB by decide
theorem EncodedLength.res_7_E : EncodedLength.Statement .res_7_E := fun _ => show (2 : Nat) = lengthOf 0xCB by decide
theorem EncodedLength.res_7_H : EncodedLength.Statement .res_7_H := fun _ => show (2 : Nat) = lengthOf 0xCB by decide
theorem EncodedLength.res_7_L : EncodedLength.Statement .res_7_L := fun _ => show (2 : Nat) = lengthOf 0xCB by decide
theorem EncodedLength.res_7_mHL : EncodedLength.Statement .res_7_mHL := fun _ => show (2 : Nat) = lengthOf 0xCB by decide
theorem EncodedLength.res_7_A : EncodedLength.Statement .res_7_A := fun _ => show (2 : Nat) = lengthOf 0xCB by decide
theorem EncodedLength.set_0_B : EncodedLength.Statement .set_0_B := fun _ => show (2 : Nat) = lengthOf 0xCB by decide
theorem EncodedLength.set_0_C : EncodedLength.Statement .set_0_C := fun _ => show (2 : Nat) = lengthOf 0xCB by decide
theorem EncodedLength.set_0_D : EncodedLength.Statement .set_0_D := fun _ => show (2 : Nat) = lengthOf 0xCB by decide
theorem EncodedLength.set_0_E : EncodedLength.Statement .set_0_E := fun _ => show (2 : Nat) = lengthOf 0xCB by decide
theorem EncodedLength.set_0_H : EncodedLength.Statement .set_0_H := fun _ => show (2 : Nat) = lengthOf 0xCB by decide
theorem EncodedLength.set_0_L : EncodedLength.Statement .set_0_L := fun _ => show (2 : Nat) = lengthOf 0xCB by decide
theorem EncodedLength.set_0_mHL : EncodedLength.Statement .set_0_mHL := fun _ => show (2 : Nat) = lengthOf 0xCB by decide
theorem EncodedLength.set_0_A : EncodedLength.Statement .set_0_A := fun _ => show (2 : Nat) = lengthOf 0xCB by decide
theorem EncodedLength.set_1_B : EncodedLength.Statement .set_1_B := fun _ => show (2 : Nat) = lengthOf 0xCB by decide
theorem EncodedLength.set_1_C : EncodedLength.Statement .set_1_C := fun _ => show (2 : Nat) = lengthOf 0xCB by decide
theorem EncodedLength.set_1_D : EncodedLength.Statement .set_1_D := fun _ => show (2 : Nat) = lengthOf 0xCB by decide
theorem EncodedLength.set_1_E : EncodedLength.Statement .set_1_E := fun _ => show (2 : Nat) = lengthOf 0xCB by decide
theorem EncodedLength.set_1_H : EncodedLength.Statement .set_1_H := fun _ => show (2 : Nat) = lengthOf 0xCB by decide
theorem EncodedLength.set_1_L : EncodedLength.Statement .set_1_L := fun _ => show (2 : Nat) = lengthOf 0xCB by decide
theorem EncodedLength.set_1_mHL : EncodedLength.Statement .set_1_mHL := fun _ => show (2 : Nat) = lengthOf 0xCB by decide
theorem EncodedLength.set_1_A : EncodedLength.Statement .set_1_A := fun _ => show (2 : Nat) = lengthOf 0xCB by decide
theorem EncodedLength.set_2_B : EncodedLength.Statement .set_2_B := fun _ => show (2 : Nat) = lengthOf 0xCB by decide
theorem EncodedLength.set_2_C : EncodedLength.Statement .set_2_C := fun _ => show (2 : Nat) = lengthOf 0xCB by decide
theorem EncodedLength.set_2_D : EncodedLength.Statement .set_2_D := fun _ => show (2 : Nat) = lengthOf 0xCB by decide
theorem EncodedLength.set_2_E : EncodedLength.Statement .set_2_E := fun _ => show (2 : Nat) = lengthOf 0xCB by decide
theorem EncodedLength.set_2_H : EncodedLength.Statement .set_2_H := fun _ => show (2 : Nat) = lengthOf 0xCB by decide
theorem EncodedLength.set_2_L : EncodedLength.Statement .set_2_L := fun _ => show (2 : Nat) = lengthOf 0xCB by decide
theorem EncodedLength.set_2_mHL : EncodedLength.Statement .set_2_mHL := fun _ => show (2 : Nat) = lengthOf 0xCB by decide
theorem EncodedLength.set_2_A : EncodedLength.Statement .set_2_A := fun _ => show (2 : Nat) = lengthOf 0xCB by decide
theorem EncodedLength.set_3_B : EncodedLength.Statement .set_3_B := fun _ => show (2 : Nat) = lengthOf 0xCB by decide
theorem EncodedLength.set_3_C : EncodedLength.Statement .set_3_C := fun _ => show (2 : Nat) = lengthOf 0xCB by decide
theorem EncodedLength.set_3_D : EncodedLength.Statement .set_3_D := fun _ => show (2 : Nat) = lengthOf 0xCB by decide
theorem EncodedLength.set_3_E : EncodedLength.Statement .set_3_E := fun _ => show (2 : Nat) = lengthOf 0xCB by decide
theorem EncodedLength.set_3_H : EncodedLength.Statement .set_3_H := fun _ => show (2 : Nat) = lengthOf 0xCB by decide
theorem EncodedLength.set_3_L : EncodedLength.Statement .set_3_L := fun _ => show (2 : Nat) = lengthOf 0xCB by decide
theorem EncodedLength.set_3_mHL : EncodedLength.Statement .set_3_mHL := fun _ => show (2 : Nat) = lengthOf 0xCB by decide
theorem EncodedLength.set_3_A : EncodedLength.Statement .set_3_A := fun _ => show (2 : Nat) = lengthOf 0xCB by decide
theorem EncodedLength.set_4_B : EncodedLength.Statement .set_4_B := fun _ => show (2 : Nat) = lengthOf 0xCB by decide
theorem EncodedLength.set_4_C : EncodedLength.Statement .set_4_C := fun _ => show (2 : Nat) = lengthOf 0xCB by decide
theorem EncodedLength.set_4_D : EncodedLength.Statement .set_4_D := fun _ => show (2 : Nat) = lengthOf 0xCB by decide
theorem EncodedLength.set_4_E : EncodedLength.Statement .set_4_E := fun _ => show (2 : Nat) = lengthOf 0xCB by decide
theorem EncodedLength.set_4_H : EncodedLength.Statement .set_4_H := fun _ => show (2 : Nat) = lengthOf 0xCB by decide
theorem EncodedLength.set_4_L : EncodedLength.Statement .set_4_L := fun _ => show (2 : Nat) = lengthOf 0xCB by decide
theorem EncodedLength.set_4_mHL : EncodedLength.Statement .set_4_mHL := fun _ => show (2 : Nat) = lengthOf 0xCB by decide
theorem EncodedLength.set_4_A : EncodedLength.Statement .set_4_A := fun _ => show (2 : Nat) = lengthOf 0xCB by decide
theorem EncodedLength.set_5_B : EncodedLength.Statement .set_5_B := fun _ => show (2 : Nat) = lengthOf 0xCB by decide
theorem EncodedLength.set_5_C : EncodedLength.Statement .set_5_C := fun _ => show (2 : Nat) = lengthOf 0xCB by decide
theorem EncodedLength.set_5_D : EncodedLength.Statement .set_5_D := fun _ => show (2 : Nat) = lengthOf 0xCB by decide
theorem EncodedLength.set_5_E : EncodedLength.Statement .set_5_E := fun _ => show (2 : Nat) = lengthOf 0xCB by decide
theorem EncodedLength.set_5_H : EncodedLength.Statement .set_5_H := fun _ => show (2 : Nat) = lengthOf 0xCB by decide
theorem EncodedLength.set_5_L : EncodedLength.Statement .set_5_L := fun _ => show (2 : Nat) = lengthOf 0xCB by decide
theorem EncodedLength.set_5_mHL : EncodedLength.Statement .set_5_mHL := fun _ => show (2 : Nat) = lengthOf 0xCB by decide
theorem EncodedLength.set_5_A : EncodedLength.Statement .set_5_A := fun _ => show (2 : Nat) = lengthOf 0xCB by decide
theorem EncodedLength.set_6_B : EncodedLength.Statement .set_6_B := fun _ => show (2 : Nat) = lengthOf 0xCB by decide
theorem EncodedLength.set_6_C : EncodedLength.Statement .set_6_C := fun _ => show (2 : Nat) = lengthOf 0xCB by decide
theorem EncodedLength.set_6_D : EncodedLength.Statement .set_6_D := fun _ => show (2 : Nat) = lengthOf 0xCB by decide
theorem EncodedLength.set_6_E : EncodedLength.Statement .set_6_E := fun _ => show (2 : Nat) = lengthOf 0xCB by decide
theorem EncodedLength.set_6_H : EncodedLength.Statement .set_6_H := fun _ => show (2 : Nat) = lengthOf 0xCB by decide
theorem EncodedLength.set_6_L : EncodedLength.Statement .set_6_L := fun _ => show (2 : Nat) = lengthOf 0xCB by decide
theorem EncodedLength.set_6_mHL : EncodedLength.Statement .set_6_mHL := fun _ => show (2 : Nat) = lengthOf 0xCB by decide
theorem EncodedLength.set_6_A : EncodedLength.Statement .set_6_A := fun _ => show (2 : Nat) = lengthOf 0xCB by decide
theorem EncodedLength.set_7_B : EncodedLength.Statement .set_7_B := fun _ => show (2 : Nat) = lengthOf 0xCB by decide
theorem EncodedLength.set_7_C : EncodedLength.Statement .set_7_C := fun _ => show (2 : Nat) = lengthOf 0xCB by decide
theorem EncodedLength.set_7_D : EncodedLength.Statement .set_7_D := fun _ => show (2 : Nat) = lengthOf 0xCB by decide
theorem EncodedLength.set_7_E : EncodedLength.Statement .set_7_E := fun _ => show (2 : Nat) = lengthOf 0xCB by decide
theorem EncodedLength.set_7_H : EncodedLength.Statement .set_7_H := fun _ => show (2 : Nat) = lengthOf 0xCB by decide
theorem EncodedLength.set_7_L : EncodedLength.Statement .set_7_L := fun _ => show (2 : Nat) = lengthOf 0xCB by decide
theorem EncodedLength.set_7_mHL : EncodedLength.Statement .set_7_mHL := fun _ => show (2 : Nat) = lengthOf 0xCB by decide
theorem EncodedLength.set_7_A : EncodedLength.Statement .set_7_A := fun _ => show (2 : Nat) = lengthOf 0xCB by decide

end Sys2Proof.Laws
end

