-- ==== Sys2Proof/Laws/Run.lean ====
section
/-! SUPPORT. Runs said once: what a move can do, the induction over a run, and that a terminal record stands. -/

namespace Sys2Proof.Machine

/-- Everything a move can do: a step, a step that the core does not have (nothing changes), or a host move. -/
theorem Move.apply_cases (m : Move) (s : State) :
    (m = .step ∧ Sys2Proof.Machine.step s = .next (m.apply s)) ∨
    (m = .step ∧ (∀ t, Sys2Proof.Machine.step s ≠ .next t) ∧ m.apply s = s) ∨
    (∃ h, m = .host h ∧ m.apply s = h.apply s) := by
  cases m with
  | host h => exact .inr (.inr ⟨h, rfl, rfl⟩)
  | step =>
    unfold Move.apply
    cases hs : Sys2Proof.Machine.step s with
    | next t => exact .inl ⟨rfl, rfl⟩
    | fault r => exact .inr (.inl ⟨rfl, (fun _ h => nomatch h), rfl⟩)
    | refused r => exact .inr (.inl ⟨rfl, (fun _ h => nomatch h), rfl⟩)

/-- The induction over a run: what holds of the launch state and is kept by every step and every host move holds of every
state of every run. -/
theorem runState_induction {P : State → Prop} {launch : State} (moves : Nat → Move) (h0 : P launch)
    (hs : ∀ s t, P s → step s = .next t → P t) (hm : ∀ (m : HostMove) s, P s → P (m.apply s)) (n : Nat) :
    P (runState launch moves n) := by
  induction n with
  | zero => exact h0
  | succ n ih =>
    rcases (moves n).apply_cases (runState launch moves n) with ⟨_, h⟩ | ⟨_, _, h⟩ | ⟨m, _, h⟩
    · exact hs _ _ ih h
    · exact (congrArg P h).mpr ih
    · exact (congrArg P h).mpr (hm m _ ih)

/-- A run from its `n`-th state on is a run. -/
theorem runState_add (launch : State) (moves : Nat → Move) (n k : Nat) :
    runState launch moves (n + k) = runState (runState launch moves n) (fun j => moves (n + j)) k := by
  induction k with
  | zero => rfl
  | succ k ih => exact congrArg (moves (n + k)).apply ih

/-- No host move touches a terminal record. -/
@[simp] theorem HostMove.apply_fault (m : HostMove) (s : State) : (m.apply s).fault = s.fault := by cases m <;> rfl
@[simp] theorem HostMove.apply_refused (m : HostMove) (s : State) : (m.apply s).refused = s.refused := by cases m <;> rfl

/-- A run ends at one state only: the first that meets the condition. -/
theorem RunEndsAt.unique {launch : State} {moves : Nat → Move} {n k : Nat} (hn : RunEndsAt launch moves n)
    (hk : RunEndsAt launch moves k) : n = k := by
  rcases Nat.lt_trichotomy n k with h | h | h
  · exact absurd hn.1 (hk.2 n h)
  · exact h
  · exact absurd hk.1 (hn.2 k h)

end Sys2Proof.Machine
end

