-- ==== Sys2Proof/Laws/Step.lean ====
section
/-! SUPPORT. The step said once: the four things a step can do, and the two things a fetch can answer. -/

namespace Sys2Proof.Machine

/-- Everything a step that answers a next state can have done (R300): refuse a dispatch under the HALT bug, dispatch, idle, or
run one instruction. In all four the core had no terminal record and was not stopped. -/
theorem step_cases {s t : State} (h : step s = .next t) :
    (s.fault = none ∧ s.refused = none ∧ s.stopped = false) ∧
    ((∃ src, s.ime = true ∧ lowestSource s.pend = some src ∧ s.haltBug = true ∧ t = refuseDispatch s) ∨
     (∃ src, s.ime = true ∧ lowestSource s.pend = some src ∧ s.haltBug = false ∧ t = dispatchStep s src) ∨
     (lowestSource s.pend = none ∧ s.halted = true ∧ t = idleStep s) ∨
     ((s.ime = false ∨ lowestSource s.pend = none) ∧ (s.halted = false ∨ lowestSource s.pend ≠ none) ∧
       runInstr s = .next t)) := by
  unfold step stepOnce at h
  split at h
  · cases h
  · cases h
  · rename_i hf hr
    split at h
    · cases h
    · rename_i hs
      refine ⟨⟨hf, hr, by simpa using hs⟩, ?_⟩
      unfold runStep at h
      split at h
      · rename_i src hi hl
        split at h <;> cases h
        · exact .inl ⟨src, hi, hl, ‹_›, rfl⟩
        · exact .inr (.inl ⟨src, hi, hl, by simpa using ‹¬ s.haltBug = true›, rfl⟩)
      · rename_i hl
        split at h
        · cases h
          exact .inr (.inr (.inl ⟨hl, ‹_›, rfl⟩))
        · exact .inr (.inr (.inr ⟨.inr hl, .inl (by simpa using ‹¬ s.halted = true›), h⟩))
      · rename_i src hi hl
        exact .inr (.inr (.inr ⟨.inl hi, .inr (by rw [hl]; exact Option.some_ne_none src), h⟩))

/-- An instruction's step: the meaning's next state, then the end of the step. -/
theorem runInstr_cases {s t : State} (h : runInstr s = .next t) :
    ∃ u, exec s.fetchInstr.1 s.fetchInstr.2 = .next u ∧ t = u.finish s.fetchInstr.1 s.eiPending := by
  unfold runInstr at h
  dsimp only at h
  split at h
  · cases h
    exact ⟨_, ‹_›, rfl⟩
  · cases h
  · cases h

theorem lowestSource_none (p : BitVec 5) : lowestSource p = none ↔ p = 0 := by
  revert p
  decide

/-- The state past `n` bytes of an instruction, as `fetchInstr` leaves it: awake, the HALT bug spent. -/
def State.pastBytes (s : State) (n : Nat) : State :=
  { s with halted := false, haltBug := false, pc := s.pc + BitVec.ofNat 16 (n - if s.haltBug then 1 else 0) }

/-- Everything a fetch can answer (R100, R304): an unmapped byte with the state untouched, or an instruction with a
descriptor and the state past its bytes. -/
theorem State.fetchInstr_cases (s : State) :
    (s.busRead s.pc ∈ unmappedBytes ∧ s.fetchInstr = (.unmapped (s.busRead s.pc), s)) ∨
    ∃ i d, i.descriptor = some d ∧ (encode i).headD 0 = s.busRead s.pc ∧
      s.fetchInstr = (i, s.pastBytes (encode i).length) := by
  have hg := entryOf_good (s.busRead s.pc)
  have hb : ∀ n : Nat, n + 1 = (if s.haltBug then n else n + 1) + (if s.haltBug then 1 else 0) := by
    intro n
    split <;> rfl
  have hf : ({ s with halted := false }.fetchOpcode : Byte × State) = (s.busRead s.pc, s.pastBytes 1) := by
    cases h : s.haltBug <;>
      simp only [State.fetchOpcode, State.pastBytes, h, Bool.false_eq_true, if_true, if_false, Nat.sub_self,
        Nat.sub_zero] <;>
      first | rfl | (rw [BitVec.add_zero]; rfl)
  have h8 : ∀ n, n ≠ 0 → (s.pastBytes n).fetch8.2 = s.pastBytes (n + 1) := by
    intro n hn
    cases h : s.haltBug <;> simp [State.fetch8, State.pastBytes, h]
    · bv_omega
    · obtain ⟨m, rfl⟩ := Nat.exists_eq_succ_of_ne_zero hn
      simp
      bv_omega
  unfold State.fetchInstr
  rw [hf]
  dsimp only
  generalize he : entryOf (s.busRead s.pc) = e at hg
  cases e with
  | plain i =>
    obtain ⟨d, hd⟩ := Option.isSome_iff_exists.mp hg.1
    exact .inr ⟨i, d, hd, by rw [hg.2]; rfl, by rw [hg.2]; rfl⟩
  | imm8 g =>
    have hg' := hg (s.pastBytes 1).fetch8.1
    obtain ⟨d, hd⟩ := Option.isSome_iff_exists.mp hg'.1
    exact .inr ⟨_, d, hd, by rw [hg'.2]; rfl, by rw [hg'.2]; exact congrArg _ (h8 1 (by decide))⟩
  | imm16 g =>
    have hg' := hg (s.pastBytes 1).fetch16.1
    obtain ⟨d, hd⟩ := Option.isSome_iff_exists.mp hg'.1
    refine .inr ⟨_, d, hd, by rw [hg'.2]; rfl, ?_⟩
    have h16 : (s.pastBytes 1).fetch16.2 = s.pastBytes 3 := by
      show ((s.pastBytes 1).fetch8.2).fetch8.2 = s.pastBytes 3
      rw [h8 1 (by decide), h8 2 (by decide)]
    rw [hg'.2]
    exact congrArg _ h16
  | escape =>
    have hp := prefixedOf_good (s.pastBytes 1).fetch8.1
    have hd : ∃ d, (prefixedOf (s.pastBytes 1).fetch8.1).descriptor = some d := by
      rw [hp.2.1]
      rcases decodeFields_prefixed (s.pastBytes 1).fetch8.1 with ⟨_, _, e⟩ | ⟨_, _, e⟩ | ⟨_, _, e⟩ | ⟨_, _, e⟩ <;>
        exact ⟨_, congrArg _ e⟩
    obtain ⟨d, hd⟩ := hd
    refine .inr ⟨_, d, hd, ?_, ?_⟩
    · rw [hp.1]
      exact hg.symm
    · rw [hp.1]
      exact congrArg _ (h8 1 (by decide))
  | unmapped => exact .inl ⟨hg, rfl⟩

/-- The end of an instruction's step, for an instruction with a descriptor (R215, R335): IME, the pending EI and the report. -/
theorem State.finish_of_descriptor (i : Instr) (d : Descriptor) (w : Bool) (t : State) (h : i.descriptor = some d) :
    t.finish i w = { t.endInstr w (isDi i) with report := some (.executed i (i.cycles t.params.cycles t.taken)) } := by
  cases i
  case unmapped op => cases h
  all_goals rfl

/-- An unmapped byte's step (R310): the fault record and the report, nothing else. -/
theorem runInstr_unmapped (s : State) (h : s.fetchInstr = (.unmapped (s.busRead s.pc), s)) :
    runInstr s = .next { s with
      fault := some { pc := s.pc, opcode := s.busRead s.pc, prefixed := false }
      report := some (.fault { pc := s.pc, opcode := s.busRead s.pc, prefixed := false } 0) } := by
  unfold runInstr
  rw [h]
  rfl

end Sys2Proof.Machine
end

