-- ==== Sys2Proof/Tests/Slice0.lean ====
section
/-! SUPPORT. The model's own tests: ill-formed terms, words written out from the encodings of spec/30_encoding.md, single steps
from the vectors of spec/95_test_vectors.md, and for every statement with hypotheses a state and operands that meet them. -/

open Sys2Proof Sys2Proof.Machine Sys2Proof.Claims

namespace Sys2Proof.Tests

/-! ### States and steps -/

/-- The base state of spec/95_test_vectors.md, with the registers A, F, B, C, D, E, H, L given. -/
def base (a f b c d e h l : Byte) : State :=
  { State.reset with regs := { a, f, b, c, d, e, h, l }, sp := 0xFFFE, pc := 0x0100, bootMapped := false }

/-- The base state with all registers zero. -/
def zero : State := base 0 0 0 0 0 0 0 0

/-- The bytes of a program at PC. -/
def prog (s : State) (bs : List Byte) : State := s.placeBytes s.pc bs

/-- A value of the state one step later. -/
def after {α : Type} (s : State) (f : State → α) : Option α :=
  match step s with
  | .next t => some (f t)
  | .fault _ => none
  | .refused _ => none

/-- The outcome of a step without its state. -/
inductive Kind where
  | next | fault (r : Fault) | refused (r : Refusal)
deriving DecidableEq, Repr

def kind (s : State) : Kind :=
  match step s with
  | .next _ => .next
  | .fault r => .fault r
  | .refused r => .refused r

/-- A and F. -/
def af (s : State) : Byte × Byte := (s.regs.a, s.regs.f)

/-- The cycles of the last report, for an executed instruction. -/
def cycles (s : State) : Option Nat :=
  match s.report with
  | some (.executed _ n) => some n
  | some (.dispatched _ n) => some n
  | some (.idle n) => some n
  | some (.fault _ n) => some n
  | some (.refused _ n) => some n
  | none => none

/-! ### WellFormed: an ill-formed term for each check -/

theorem test_wf_mapped_byte_is_not_unmapped : (Instr.unmapped 0x00).wellFormed = false := by decide
theorem test_wf_unmapped_byte : (Instr.unmapped 0xD3).wellFormed = true := by decide
theorem test_wf_unresolved_escape : (Instr.prefixCb 0x37).wellFormed = false := by decide

/-! ### Words written out from the encodings (R93, R94, R103, R104) -/

theorem test_decode_ld_r_n8 : decode [0b00011110, 0x99] = .ok (.ld_E_n8 0x99, []) := by rfl
theorem test_decode_ld_r16_n16 : decode [0b00110001, 0xFE, 0xDF] = .ok (.ld_SP_n16 0xDFFE, []) := by rfl
theorem test_decode_ld_a16_sp : decode [0b00001000, 0x00, 0xC0] = .ok (.ld_ma16_SP 0xC000, []) := by rfl
theorem test_decode_ld_r_r : decode [0b01010111] = .ok (.ld_D_A, []) := by rfl
theorem test_decode_ld_hl_r : decode [0b01110100] = .ok (.ld_mHL_H, []) := by rfl
theorem test_decode_ld_hl_minus : decode [0b00110010] = .ok (.ld_mHLdec_A, []) := by rfl
theorem test_decode_ldh : decode [0b11110000, 0x44] = .ok (.ldh_A_ma8 0x44, []) := by rfl
theorem test_decode_ld_hl_sp_e8 : decode [0b11111000, 0xFE] = .ok (.ld_HL_SPe8 0xFE, []) := by rfl
theorem test_decode_alu_r : decode [0b10011100] = .ok (.sbc_A_H, []) := by rfl
theorem test_decode_alu_n : decode [0b11101110, 0x0F] = .ok (.xor_n8 0x0F, []) := by rfl
theorem test_decode_inc_hl_ind : decode [0b00110100] = .ok (.inc_mHL, []) := by rfl
theorem test_decode_dec_r16 : decode [0b00111011] = .ok (.dec_SP, []) := by rfl
theorem test_decode_jp_cc : decode [0b11010010, 0x34, 0x12] = .ok (.jp_NC_a16 0x1234, []) := by rfl
theorem test_decode_jr_cc : decode [0b00111000, 0x80] = .ok (.jr_C_e8 0x80, []) := by rfl
theorem test_decode_call : decode [0b11001101, 0x60, 0x01] = .ok (.call_a16 0x0160, []) := by rfl
theorem test_decode_rst : decode [0b11101111] = .ok (.rst_0x28, []) := by rfl
theorem test_decode_reti : decode [0b11011001] = .ok (.reti, []) := by rfl
theorem test_decode_pop : decode [0b11010001] = .ok (.pop_DE, []) := by rfl
theorem test_decode_halt : decode [0b01110110] = .ok (.halt, []) := by rfl
theorem test_decode_stop : decode [0b00010000, 0xCB] = .ok (.stop 0xCB, []) := by rfl
theorem test_decode_ccf : decode [0b00111111] = .ok (.ccf, []) := by rfl
theorem test_decode_rra : decode [0b00011111] = .ok (.rra, []) := by rfl
theorem test_decode_cb_rot : decode [0b11001011, 0b00101111] = .ok (.sra_A, []) := by rfl
theorem test_decode_cb_bit : decode [0b11001011, 0b01110110] = .ok (.bit_6_mHL, []) := by rfl
theorem test_decode_cb_res : decode [0b11001011, 0b10000111] = .ok (.res_0_A, []) := by rfl
theorem test_decode_cb_set : decode [0b11001011, 0b11011110] = .ok (.set_3_mHL, []) := by rfl
theorem test_decode_truncated : decode [0xC3, 0x00] = .error .truncated := by rfl
theorem test_decode_unmapped : decode [0xFD, 0x00] = .ok (.unmapped 0xFD, [0x00]) := by rfl

/-! ### Single steps (the vector's number stands in the comment) -/

-- V1
theorem test_add_half_carry : after (prog (base 0x0F 0 0x01 0 0 0 0 0) [0x80]) af = some (0x10, 0x20) := by decide
-- V3
theorem test_add_n8_wraps : after (prog (base 0xFF 0 0 0 0 0 0 0) [0xC6, 0x01]) af = some (0x00, 0xB0) := by decide
-- V5
theorem test_adc_carry_in : after (prog (base 0xE1 0x10 0 0 0 0x0F 0 0) [0x8B]) af = some (0xF1, 0x20) := by decide
-- V6
theorem test_adc_carry_alone : after (prog (base 0xFF 0x10 0 0 0 0 0 0) [0xCE, 0x00]) af = some (0x00, 0xB0) := by
  decide
-- V7
theorem test_sub_borrow : after (prog (base 0x00 0 0x01 0 0 0 0 0) [0x90]) af = some (0xFF, 0x70) := by decide
-- V10
theorem test_sbc_self : after (prog (base 0x55 0x10 0 0 0 0 0 0) [0x9F]) af = some (0xFF, 0x70) := by decide
-- V11
theorem test_sbc_half_borrow : after (prog (base 0x10 0x10 0 0 0 0 0 0) [0xDE, 0x0F]) af = some (0x00, 0xE0) := by
  decide
-- V12
theorem test_and_sets_h : after (prog (base 0x5A 0 0 0 0 0 0 0x3F) [0xA5]) af = some (0x1A, 0x20) := by decide
-- V14
theorem test_xor_self : after (prog (base 0x3C 0x70 0 0 0 0 0 0) [0xAF]) af = some (0x00, 0x80) := by decide
-- V16
theorem test_or_n8 : after (prog (base 0x5A 0 0 0 0 0 0 0) [0xF6, 0x03]) af = some (0x5B, 0x00) := by decide
-- V18
theorem test_cp_keeps_a : after (prog (base 0x3C 0 0x2F 0 0 0 0 0) [0xB8]) af = some (0x3C, 0x60) := by decide
-- V21
theorem test_inc_keeps_c :
    after (prog (base 0 0x10 0xFF 0 0 0 0 0) [0x04]) (fun t => (t.regs.b, t.regs.f)) = some (0x00, 0xB0) := by decide
-- V26
theorem test_dec_hl_ind :
    after (prog (base 0 0 0 0 0 0 0xC0 0x00) [0x35]) (fun t => (t.busRead 0xC000, t.regs.f)) = some (0xFF, 0x60) := by
  decide
-- V32
theorem test_add_hl_sp :
    after (prog { base 0 0x40 0 0 0 0 0xFF 0xFF with sp := 0x0001 } [0x39]) (fun t => (t.hl, t.regs.f)) =
      some (0x0000, 0x30) := by decide
-- V33
theorem test_inc_de_no_flags :
    after (prog (base 0 0xF0 0 0 0x00 0xFF 0 0) [0x13]) (fun t => (t.pair .de, t.regs.f)) = some (0x0100, 0xF0) := by
  decide
-- V35
theorem test_dec_bc_wraps : after (prog zero [0x0B]) (fun t => (t.pair .bc, t.regs.f)) = some (0xFFFF, 0x00) := by
  decide
-- V38
theorem test_add_sp_minus_one :
    after (prog { zero with sp := 0x0001 } [0xE8, 0xFF]) (fun t => (t.sp, t.regs.f)) = some (0x0000, 0x30) := by decide
-- V43
theorem test_ld_h_hl_uses_old_hl :
    after (prog { base 0 0 0 0 0 0 0xC0 0x10 with mem := [(0xC010, 0x5A)] } [0x66]) (fun t => t.regs.h) =
      some 0x5A := by decide
-- V45
theorem test_ld_hl_l : after (prog (base 0 0 0 0 0 0 0xC0 0x20) [0x75]) (fun t => t.busRead 0xC020) = some 0x20 := by
  decide
-- V50
theorem test_ld_hl_plus_writes_ie :
    after (prog (base 0x1F 0 0 0 0 0 0xFF 0xFF) [0x22]) (fun t => (t.ie, t.hl)) = some (0x1F, 0x0000) := by decide
-- V54
theorem test_boot_switch :
    after (prog { base 0x01 0 0 0 0 0 0 0 with bootMapped := true } [0xEA, 0x50, 0xFF])
      (fun t => (t.bootMapped, t.busRead 0xFF50)) = some (false, 0x01) := by decide
-- V55
theorem test_read_if : after (prog { zero with intFlag := 1 } [0xFA, 0x0F, 0xFF]) (fun t => t.regs.a) = some 0xE1 := by
  decide
-- V56
theorem test_write_if : after (prog (base 0xFF 0 0 0 0 0 0 0) [0xE0, 0x0F]) (fun t => t.intFlag) = some 0x1F := by
  decide
-- V57
theorem test_lcd_line_sentinel : after (prog zero [0xF0, 0x44]) (fun t => t.regs.a) = some 0x90 := by decide
-- V59
theorem test_ld_a_c_reads_ie :
    after (prog { base 0 0 0 0xFF 0 0 0 0 with ie := 0x15 } [0xF2]) (fun t => t.regs.a) = some 0x15 := by decide
-- V62
theorem test_ld_a16_sp :
    after (prog { zero with sp := 0xABCD } [0x08, 0x00, 0xC0]) (fun t => (t.busRead 0xC000, t.busRead 0xC001)) =
      some (0xCD, 0xAB) := by decide
-- V65
theorem test_ld_hl_sp_minus_two :
    after (prog { zero with sp := 0xC005 } [0xF8, 0xFE]) (fun t => (t.hl, t.regs.f)) = some (0xC003, 0x30) := by decide
-- V71, V72 (the example of §8)
theorem test_jp_nz_taken :
    after (prog { zero with pc := 0x0200 } [0xC2, 0x00, 0x30]) (fun t => (t.pc, cycles t)) =
      some (0x3000, some 16) := by decide
theorem test_jp_nz_not_taken :
    after (prog { base 0 0x80 0 0 0 0 0 0 with pc := 0x0200 } [0xC2, 0x00, 0x30]) (fun t => (t.pc, cycles t)) =
      some (0x0203, some 12) := by decide
-- V77
theorem test_jr_c_backwards : after (prog (base 0 0x10 0 0 0 0 0 0) [0x38, 0x80]) (fun t => t.pc) = some 0x0082 := by
  decide
-- V78
theorem test_call_pushes :
    after (prog { zero with pc := 0x015B } [0xCD, 0x60, 0x01])
      (fun t => (t.pc, t.sp, t.busRead 0xFFFD, t.busRead 0xFFFC)) = some (0x0160, 0xFFFC, 0x01, 0x5E) := by decide
-- V83
theorem test_ret_nc_taken :
    after (prog { zero with sp := 0xCFFE, mem := [(0xCFFE, 0x03), (0xCFFF, 0x01)] } [0xD0])
      (fun t => (t.pc, t.sp, cycles t)) = some (0x0103, 0xD000, some 20) := by decide
-- V84
theorem test_reti_sets_ime :
    after (prog { zero with sp := 0xCFFE, mem := [(0xCFFE, 0x03), (0xCFFF, 0x01)] } [0xD9])
      (fun t => (t.pc, t.ime)) = some (0x0103, true) := by decide
-- V85
theorem test_rst_38 :
    after (prog { zero with pc := 0x0150, sp := 0xD000 } [0xFF]) (fun t => (t.pc, t.busRead 0xCFFE, t.busRead 0xCFFF)) =
      some (0x0038, 0x51, 0x01) := by decide
-- V91
theorem test_pop_af_masks :
    after (prog { zero with sp := 0xD000, mem := [(0xD000, 0xFF), (0xD001, 0x12)] } [0xF1]) af = some (0x12, 0xF0) := by
  decide
-- V92
theorem test_push_writes_ie :
    after (prog { base 0 0 0xAB 0xCD 0 0 0 0 with sp := 0x0000 } [0xC5]) (fun t => (t.ie, t.busRead 0xFFFE, t.sp)) =
      some (0xAB, 0xCD, 0xFFFE) := by decide
-- V101, and V102's first step
theorem test_di_at_once : after (prog { zero with ime := true } [0xF3]) (fun t => t.ime) = some false := by decide
theorem test_ei_waits : after (prog zero [0xFB]) (fun t => (t.ime, t.eiPending)) = some (false, true) := by decide
-- V105, V106's first step
theorem test_halt_suspends : after (prog { zero with ie := 4 } [0x76]) (fun t => (t.halted, t.haltBug)) =
    some (true, false) := by decide
theorem test_halt_bug_armed :
    after (prog { zero with ie := 4, intFlag := 4 } [0x76]) (fun t => (t.halted, t.haltBug)) = some (false, true) := by
  decide
-- V106's second step
theorem test_halt_bug_does_not_advance :
    after (prog { zero with pc := 0x0151, haltBug := true } [0x3C]) (fun t => (t.regs.a, t.pc, t.haltBug)) =
      some (0x01, 0x0151, false) := by decide
-- V111
theorem test_stop_ignores_second_byte :
    after (prog { zero with pc := 0x0200 } [0x10, 0xD3]) (fun t => (t.pc, t.stopped, t.fault)) =
      some (0x0202, true, none) := by decide
-- V122, V126
theorem test_daa_after_subtraction : after (prog (base 0x0F 0x60 0 0 0 0 0 0) [0x27]) af = some (0x09, 0x40) := by decide
theorem test_daa_half_and_carry : after (prog (base 0x00 0x30 0 0 0 0 0 0) [0x27]) af = some (0x66, 0x10) := by decide
-- V128, V129, V130
theorem test_cpl_keeps_z : after (prog (base 0xFF 0 0 0 0 0 0 0) [0x2F]) af = some (0x00, 0x60) := by decide
theorem test_scf : after (prog (base 0 0xE0 0 0 0 0 0 0) [0x37]) af = some (0x00, 0x90) := by decide
theorem test_ccf : after (prog (base 0 0x30 0 0 0 0 0 0) [0x3F]) af = some (0x00, 0x00) := by decide
-- the examples of R234 to R237
theorem test_rlca : after (prog (base 0x85 0 0 0 0 0 0 0) [0x07]) af = some (0x0B, 0x10) := by decide
theorem test_rrca : after (prog (base 0x3B 0 0 0 0 0 0 0) [0x0F]) af = some (0x9D, 0x10) := by decide
theorem test_rla_z_clear : after (prog (base 0x80 0 0 0 0 0 0 0) [0x17]) af = some (0x00, 0x10) := by decide
theorem test_rra : after (prog (base 0x81 0 0 0 0 0 0 0) [0x1F]) af = some (0x40, 0x10) := by decide
-- the examples of R251 to R258
theorem test_rlc : after (prog (base 0 0 0x85 0 0 0 0 0) [0xCB, 0x00]) (fun t => (t.regs.b, t.regs.f)) =
    some (0x0B, 0x10) := by decide
theorem test_rrc : after (prog (base 0 0 0 0x01 0 0 0 0) [0xCB, 0x09]) (fun t => (t.regs.c, t.regs.f)) =
    some (0x80, 0x10) := by decide
theorem test_rl : after (prog (base 0 0 0 0 0 0 0 0x80) [0xCB, 0x15]) (fun t => (t.regs.l, t.regs.f)) =
    some (0x00, 0x90) := by decide
theorem test_rr : after (prog (base 0x01 0 0 0 0 0 0 0) [0xCB, 0x1F]) af = some (0x00, 0x90) := by decide
theorem test_sla : after (prog (base 0 0 0 0 0x80 0 0 0) [0xCB, 0x22]) (fun t => (t.regs.d, t.regs.f)) =
    some (0x00, 0x90) := by decide
theorem test_sra : after (prog (base 0x8A 0 0 0 0 0 0 0) [0xCB, 0x2F]) af = some (0xC5, 0x00) := by decide
theorem test_swap : after (prog (base 0xF0 0 0 0 0 0 0 0) [0xCB, 0x37]) af = some (0x0F, 0x00) := by decide
theorem test_srl : after (prog (base 0xFF 0 0 0 0 0 0 0) [0xCB, 0x3F]) af = some (0x7F, 0x10) := by decide
-- the examples of R259 to R261
theorem test_bit_clear : after (prog (base 0 0x10 0 0 0 0 0x80 0) [0xCB, 0x44]) (fun t => t.regs.f) = some 0xB0 := by decide
theorem test_res : after (prog (base 0xFF 0 0 0 0 0 0 0) [0xCB, 0x87]) af = some (0xFE, 0x00) := by decide
theorem test_set_hl_ind : after (prog (base 0 0 0 0 0 0 0xC0 0x00) [0xCB, 0xDE]) (fun t => t.busRead 0xC000) =
    some 0x08 := by decide
-- V170 (the example of §8)
theorem test_dispatch_timer :
    after { zero with ime := true, ie := 4, intFlag := 4, pc := 0x1234 }
      (fun t => (t.pc, t.busRead 0xFFFD, t.busRead 0xFFFC, t.ime, t.intFlag)) = some (0x0050, 0x12, 0x34, false, 0) := by
  decide
-- R310
theorem test_unmapped_sets_the_record :
    after (prog zero [0xD3]) (fun t => (t.fault, t.pc)) =
      some (some { pc := 0x0100, opcode := 0xD3, prefixed := false }, 0x0100) := by decide
-- the first step from reset, with the byte 0x3E (LD A,n8) placed as the host's boot ROM
theorem test_first_step_from_reset :
    after (State.reset.withFetchWord 8 0x3E) (fun t => (t.regs.a, t.pc)) = some (0x00, 0x0002) := by decide

-- R7, R350: the counts are the parameter's
theorem test_cycles_are_a_parameter :
    after (prog { zero with params := { Params.default with cycles := { plain := [.always 5], prefixed := [] } } } [0x00])
      cycles = some (some 5) := by decide

/-! ### Runs (R336) -/

/-- A launch from the post-boot profile with a program at 0x0100 of the cartridge. -/
def launch (program : List Host.Cell) : State :=
  State.postBoot { Draw.zero with cart := { image := program, writes := [] } }

/-- A host that never moves. -/
def steps : Nat → Move := fun _ => .step

theorem test_launch_is_launch (program : List Host.Cell) : (launch program).IsLaunch := ⟨_, .inr rfl⟩

-- HALT with no request: the run ends at its first halted state
theorem test_run_ends_at_halt : RunEndsAt (launch [(0x0100, 0x76)]) steps 1 := by
  refine ⟨⟨rfl, rfl, .inl ⟨rfl, by decide, fun _ _ => rfl⟩⟩, fun k hk => ?_⟩
  obtain rfl : k = 0 := by omega
  exact fun h => by rcases h.2.2 with h | h <;> exact absurd h.1 (by decide)

/-- `JR -2` at 0x0100, after its first step. -/
def looping : State := runState (launch [(0x0100, 0x18), (0x0101, 0xFE)]) steps 1

-- JR -2, the rule's own example of a hang
theorem test_jr_minus_two_hangs : RunHangs (launch [(0x0100, 0x18), (0x0101, 0xFE)]) steps := by
  have hs : ∀ n, runState (launch [(0x0100, 0x18), (0x0101, 0xFE)]) steps (n + 1) = looping := by
    intro n
    induction n with
    | zero => rfl
    | succ n ih => exact (congrArg (Move.apply .step) ih).trans rfl
  have hl : looping.halted = false ∧ looping.stopped = false := by decide
  intro n h
  cases n with
  | zero => rcases h.1.2.2 with h | h <;> exact absurd h.1 (by decide)
  | succ n =>
    have h2 := h.1.2.2
    rw [hs n] at h2
    rcases h2 with h | h
    · exact Bool.false_ne_true (hl.1.symm.trans h.1)
    · exact Bool.false_ne_true (hl.2.symm.trans h.1)

/-! ### Witnesses: states and operands that meet the hypotheses of the statements -/

/-- Draws that are not all zero, with canonical memories. -/
def draw1 : Draw :=
  { Draw.zero with
    regs := { a := 1, f := 0xFF, b := 2, c := 3, d := 4, e := 5, h := 6, l := 7 }
    sp := 0xDFFF
    ie := 0xFF
    intFlag := 0x1F
    mem := [(0xC000, 1), (0xFF0E, 2), (0xFF10, 3), (0xFFFE, 4)]
    bootRom := [(0, 0x31), (0xFF, 0x50)]
    cart := { image := [(0x0100, 0)], writes := [] }
    vram := { image := [(0, 0)], writes := [] } }

theorem witness_InvariantHoldsAtPowerOn :
    Memory.wf draw1.mem = true ∧ (∀ c ∈ draw1.mem, 0xC000 ≤ c.1 ∧ c.1 ≤ 0xFFFE ∧ c.1 ≠ 0xFF0F) ∧
    Memory.wf draw1.bootRom = true ∧ Memory.rising draw1.cart.image = true ∧ Memory.rising draw1.vram.image = true := by
  decide

/-- A state with the invariant, registers and memory not all zero. -/
def inv1 : State := State.powerOn draw1

theorem inv1_inv : inv1.Inv where
  flags := by decide
  oneWait := by decide
  mem := by decide
  owned := by decide
  boot := by decide
  cart := by decide
  vram := by decide

theorem witness_StepKeepsInvariant : inv1.Inv ∧ ∃ t, step inv1 = .next t := ⟨inv1_inv, _, rfl⟩

theorem witness_StepKeepsArchitecturalInvariants :
    zero.regs.f &&& 0x0F = 0 ∧ zero.bootMapped = false ∧ ¬ (zero.halted = true ∧ zero.stopped = true) ∧
    ∃ t, step (prog zero [0x00]) = .next t := ⟨by decide, rfl, by decide, _, rfl⟩

/-- `CALL 0xC123` in working RAM at 0xC000. -/
def run1 : State := { zero with pc := 0xC000, mem := [(0xC000, 0xCD), (0xC001, 0x23), (0xC002, 0xC1)] }

theorem run1_runs : RunsInstr run1 where
  noFault := rfl
  noRefusal := rfl
  running := rfl
  noDispatch := .inl rfl
  awake := .inl rfl

theorem witness_StepRunsTheDecodedInstruction :
    RunsInstr run1 ∧ decode (fetchedBytes run1) = .ok (.call_a16 0xC123, []) ∧
    (Instr.call_a16 0xC123).wellFormed = true ∧ (Instr.call_a16 0xC123).descriptor = some .callA16 :=
  ⟨run1_runs, rfl, rfl, rfl⟩

/-- Under the HALT bug the first byte is read again as the immediate: `LD A,0x3E`. -/
def run2 : State := { run1 with haltBug := true, mem := [(0xC000, 0x3E), (0xC001, 0x14)] }

theorem witness_StepRunsTheDecodedInstruction_haltBug :
    RunsInstr run2 ∧ decode (fetchedBytes run2) = .ok (.ld_A_n8 0x3E, [0x14]) ∧
    (Instr.ld_A_n8 0x3E).descriptor = some (.ldR8N8 .a) :=
  ⟨⟨rfl, rfl, rfl, .inl rfl, .inl rfl⟩, rfl, rfl⟩

/-- A halted core that a request wakes with IME clear, at the top of the address space. -/
def run3 : State := { zero with halted := true, ie := 1, intFlag := 1, pc := 0xFFFF }

theorem witness_StepRunsTheDecodedInstruction_halted :
    RunsInstr run3 ∧ (∃ i rest, decode (fetchedBytes run3) = .ok (i, rest) ∧ i.wellFormed = true ∧
      i.descriptor = some (.ldR16N16 .bc)) :=
  ⟨⟨rfl, rfl, rfl, .inl rfl, .inr (by decide)⟩, _, _, rfl, rfl, rfl⟩

theorem witness_UnmappedOpcodeStopsTheCore :
    RunsInstr { run1 with mem := [(0xC000, 0xED)] } ∧
    ({ run1 with mem := [(0xC000, 0xED)] } : State).busRead 0xC000 ∈ unmappedBytes :=
  ⟨⟨rfl, rfl, rfl, .inl rfl, .inl rfl⟩, by decide⟩

theorem witness_NoStepWhileTerminalOrStopped :
    kind { zero with fault := some { pc := 0, opcode := 0xD3, prefixed := false } } =
      .fault (.decodeFailure { pc := 0, opcode := 0xD3, prefixed := false }) ∧
    kind { zero with refused := some .haltBugDispatch } = .refused .haltBugDispatch ∧
    kind { zero with stopped := true } = .fault .stopped := by decide

/-- A timer and a joypad request, both enabled. -/
def irq1 : State := { zero with ime := true, ie := 0x14, intFlag := 0x1C, pc := 0xC000 }

theorem witness_DispatchSequence :
    irq1.fault = none ∧ irq1.refused = none ∧ irq1.stopped = false ∧ irq1.ime = true ∧ irq1.haltBug = false ∧
    lowestSource irq1.pend = some .timer := by decide

theorem witness_DispatchSequence_joypad :
    lowestSource { irq1 with ie := 0x10, halted := true }.pend = some .joypad := by decide

theorem witness_PendingSourceIsLowestBit :
    lowestSource 0b10100 = some .timer ∧ (0b10100 : BitVec 5).getLsbD 2 = true ∧
    (∀ k < 2, (0b10100 : BitVec 5).getLsbD k = false) ∧ lowestSource 0 = none := by decide

theorem witness_DispatchUnderHaltBugIsRefused :
    ({ irq1 with haltBug := true } : State).ime = true ∧ ({ irq1 with haltBug := true } : State).haltBug = true ∧
    ({ irq1 with haltBug := true } : State).pend ≠ 0 ∧ irq1.fault = none ∧ irq1.refused = none ∧ irq1.stopped = false := by
  decide

/-- Halted, IME set, a request that is not enabled. -/
def idle1 : State := { zero with halted := true, ime := true, ie := 0x01, intFlag := 0x1E }

theorem witness_HaltedCoreIdles :
    idle1.fault = none ∧ idle1.refused = none ∧ idle1.stopped = false ∧ idle1.halted = true ∧ idle1.pend = 0 := by decide

theorem witness_PendingEi_takes_effect :
    RunsInstr { run1 with eiPending := true } ∧
    decode (fetchedBytes { run1 with eiPending := true }) = .ok (.call_a16 0xC123, []) ∧ Instr.call_a16 0xC123 ≠ .di ∧
    (∃ u, exec (.call_a16 0xC123) (past { run1 with eiPending := true } (.call_a16 0xC123)) = .next u) ∧
    (∃ t, step { run1 with eiPending := true } = .next t) :=
  ⟨⟨rfl, rfl, rfl, .inl rfl, .inl rfl⟩, rfl, (fun h => nomatch h), ⟨_, rfl⟩, ⟨_, rfl⟩⟩

theorem witness_PendingEi_di :
    RunsInstr { run1 with eiPending := true, mem := [(0xC000, 0xF3)] } ∧
    decode (fetchedBytes { run1 with eiPending := true, mem := [(0xC000, 0xF3)] }) = .ok (.di, [0, 0]) ∧
    (∃ t, step { run1 with eiPending := true, mem := [(0xC000, 0xF3)] } = .next t) ∧ run1.eiPending = false :=
  ⟨⟨rfl, rfl, rfl, .inl rfl, .inl rfl⟩, rfl, ⟨_, rfl⟩, rfl⟩

/-- The bounds of the regions that the bus owns, and its special addresses. -/
theorem witness_BusReadAfterWrite :
    ([0xC000, 0xDFFF, 0xE000, 0xFDFF, 0xFE00, 0xFEFF, 0xFF00, 0xFF0F, 0xFF44, 0xFF50, 0xFF7F, 0xFF80, 0xFFFE, 0xFFFF]
      : List Word).all (fun a => decide (0xC000 ≤ a.toNat)) = true := by decide

theorem witness_BusReadAfterWrite_repeat :
    ([0x8000, 0x9FFF] : List Word).all (fun a => decide (0x8000 ≤ a.toNat ∧ a.toNat ≤ 0x9FFF)) = true := by decide

-- R67
theorem test_repeated_write_to_video_and_cartridge :
    ((zero.busWrite 0x9FFF 7).busWrite 0x9FFF 7).vram.writes = [(0x1FFF, 7)] ∧
    ((zero.busWrite 0x9FFF 7).busWrite 0x9FFF 8).vram.writes = [(0x1FFF, 8), (0x1FFF, 7)] ∧
    ((zero.busWrite 0x2000 7).busWrite 0x2000 7).cart.writes = [(0x2000, 7), (0x2000, 7)] := by decide

theorem test_bus_if_and_lcd_line :
    (zero.busWrite 0xFF0F 0xFF).busRead 0xFF0F = 0xFF ∧ (zero.busWrite 0xFF0F 0x00).busRead 0xFF0F = 0xE0 ∧
    (zero.busWrite 0xFF44 0x12).busRead 0xFF44 = 0x90 ∧ (zero.busWrite 0xFF45 0x12).busRead 0xFF45 = 0x12 := by decide

theorem witness_BusWriteLeavesOtherAddresses : ¬ zero.seenBy 0xC000 0xC001 ∧ ¬ zero.seenBy 0xC000 0xE000 ∧
    ¬ zero.seenBy 0x7FFF 0x8000 ∧ ¬ zero.seenBy 0xFF50 0x0100 ∧ zero.seenBy 0xFF50 0x00FF := by
  unfold State.seenBy
  decide

theorem witness_BusWriteLeavesOtherAddresses_mirror :
    ({ zero with params := { Params.default with echoMode := .mirrorWram } } : State).seenBy 0xC000 0xE000 ∧
    ¬ ({ zero with params := { Params.default with echoMode := .mirrorWram } } : State).seenBy 0xDE00 0xFE00 := by
  unfold State.seenBy
  decide

theorem witness_BootSwitchIsOneWay :
    (0xFF51 : Word) ≠ 0xFF50 ∧ zero.bootMapped = false ∧ (0x00FF : Word).toNat ≤ 0x00FF := by decide

theorem witness_PairsAreTwoRegisters : Pair.hl ≠ .af := by decide

theorem witness_DecodeOfEncode :
    (Instr.ld_ma16_SP 0xFFFF).wellFormed = true ∧ Instr.set_7_A.wellFormed = true ∧
    (Instr.unmapped 0xFD).wellFormed = true ∧ (Instr.stop 0xFF).wellFormed = true := by decide

theorem witness_EncodeOfDecode : decode [0x08, 0xFF, 0xFF, 0x76] = .ok (.ld_ma16_SP 0xFFFF, [0x76]) := by rfl

theorem witness_GridsAgreeWithFields :
    decode [0x00] = .ok (.nop, []) ∧ decode [0xFF] = .ok (.rst_0x38, []) ∧ decode [0xE3] = .ok (.unmapped 0xE3, []) ∧
    decode [0xCB, 0xFF] = .ok (.set_7_A, []) := ⟨rfl, rfl, rfl, rfl⟩

theorem witness_LoadsCopyTheSource :
    Instr.ld_B_B.descriptor = some (.ldR8R8 .b .b) ∧ Instr.ld_H_mHL.descriptor = some (.ldR8R8 .h .hlInd) ∧
    Instr.ld_mHL_A.descriptor = some (.ldR8R8 .hlInd .a) := by decide

theorem witness_AddAndAdcStoreTheSum :
    AluOperand .add .add_A_mHL zero (zero.readR8 .hlInd) ∧ AluOperand .add (.add_A_n8 0xFF) zero 0xFF ∧
    AluOperand .adc .adc_A_A zero (zero.readR8 .a) ∧ AluOperand .adc (.adc_A_n8 0xFF) zero 0xFF :=
  ⟨.inl ⟨_, rfl, rfl⟩, .inr ⟨rfl, _, rfl⟩, .inl ⟨_, rfl, rfl⟩, .inr ⟨rfl, _, rfl⟩⟩

theorem witness_SubSbcAndCpBorrow :
    AluOperand .sub .sub_B zero (zero.readR8 .b) ∧ AluOperand .sub (.sub_n8 1) zero 1 ∧
    AluOperand .cp .cp_mHL zero (zero.readR8 .hlInd) ∧ AluOperand .cp (.cp_n8 1) zero 1 ∧
    AluOperand .sbc .sbc_A_L zero (zero.readR8 .l) ∧ AluOperand .sbc (.sbc_A_n8 0) zero 0 :=
  ⟨.inl ⟨_, rfl, rfl⟩, .inr ⟨rfl, _, rfl⟩, .inl ⟨_, rfl, rfl⟩, .inr ⟨rfl, _, rfl⟩, .inl ⟨_, rfl, rfl⟩, .inr ⟨rfl, _, rfl⟩⟩

theorem witness_LogicSetsFixedFlags :
    AluOperand .and .and_C zero (zero.readR8 .c) ∧ AluOperand .and (.and_n8 0) zero 0 ∧
    AluOperand .xor .xor_A zero (zero.readR8 .a) ∧ AluOperand .xor (.xor_n8 1) zero 1 ∧
    AluOperand .or .or_mHL zero (zero.readR8 .hlInd) ∧ AluOperand .or (.or_n8 0) zero 0 :=
  ⟨.inl ⟨_, rfl, rfl⟩, .inr ⟨rfl, _, rfl⟩, .inl ⟨_, rfl, rfl⟩, .inr ⟨rfl, _, rfl⟩, .inl ⟨_, rfl, rfl⟩, .inr ⟨rfl, _, rfl⟩⟩

theorem witness_IncAndDecKeepCarry :
    Instr.inc_mHL.descriptor = some (.incR8 .hlInd) ∧ Instr.dec_A.descriptor = some (.decR8 .a) := by decide

theorem witness_AddHlCarriesFromBits11And15 :
    Instr.add_HL_HL.descriptor = some (.addHlR16 .hl) ∧ Instr.add_HL_SP.descriptor = some (.addHlR16 .sp) := by decide

theorem witness_IncAndDecOfPairsTouchNoFlags :
    Instr.inc_SP.descriptor = some (.incR16 .sp) ∧ Instr.dec_BC.descriptor = some (.decR16 .bc) := by decide

theorem witness_StopNopDiEi :
    zero.params.eiDelay = true ∧
    ({ zero with params := { Params.default with eiDelay := false } } : State).params.eiDelay = false := by decide

theorem witness_HaltSuspendsOrArmsTheBug :
    (zero.params.haltBugMode = .reproduce ∧ zero.ime = false ∧ ({ zero with ie := 1, intFlag := 1 } : State).pend ≠ 0) ∧
    ({ zero with params := { Params.default with haltBugMode := .cleanSuspend } } : State).params.haltBugMode =
      .cleanSuspend ∧
    irq1.ime = true ∧ zero.pend = 0 := by decide

theorem witness_PrefixedRotatesAndShifts :
    Instr.rlc_mHL.descriptor = some (.rot .rlc .hlInd) ∧ Instr.swap_A.descriptor = some (.rot .swap .a) ∧
    (Instr.prefixCb 0x3F).descriptor = some (.rot .srl .a) := by decide

theorem witness_BitResSetActOnOneBit :
    Instr.bit_7_mHL.descriptor = some (.bit 7 .hlInd) ∧ Instr.res_0_B.descriptor = some (.res 0 .b) ∧
    Instr.set_7_A.descriptor = some (.set 7 .a) ∧ (Instr.prefixCb 0xFF).descriptor = some (.set 7 .a) := by decide

/-- A push at 0xC002 and 0xC001, and a byte it cannot be seen at. -/
def push1 : State := { zero with sp := 0xC003 }

theorem push1_unseen : ¬ push1.seenBy 0xC002 0xC003 ∧ ¬ push1.seenBy 0xC001 0xC003 := by
  unfold State.seenBy
  decide

theorem push1_stores : stores .push_BC push1 = [0xC002, 0xC001] := by decide

theorem witness_MemoryFrame :
    (∃ t, exec .push_BC push1 = .next t) ∧ (∀ w ∈ stores .push_BC push1, ¬ push1.seenBy w 0xC003) ∧
    (∀ w ∈ stores .add_A_mHL zero, ¬ zero.seenBy w 0xC000) := by
  refine ⟨⟨_, rfl⟩, ?_, fun w hw => nomatch hw⟩
  rw [push1_stores]
  exact List.forall_mem_cons.mpr ⟨push1_unseen.1, List.forall_mem_cons.mpr ⟨push1_unseen.2, fun w hw => nomatch hw⟩⟩

theorem witness_RegisterFrame :
    (∃ t, exec .ld_B_C zero = .next t) ∧ (∀ d, Instr.ld_B_C.descriptor = some d → Reg.a ∉ destRegs d) := by
  refine ⟨⟨_, rfl⟩, ?_⟩
  intro d h
  cases h
  decide

theorem witness_FlagFrame :
    (∃ t, exec .inc_B zero = .next t) ∧ (∀ d, Instr.inc_B.descriptor = some d → writesC d = false) ∧
    (∀ d, Instr.scf.descriptor = some d → writesZ d = false) ∧ (∀ d, Instr.daa.descriptor = some d → writesN d = false) ∧
    (∀ d, Instr.inc_BC.descriptor = some d → writesH d = false) :=
  ⟨⟨_, rfl⟩, by intro d h; cases h; rfl, by intro d h; cases h; rfl, by intro d h; cases h; decide, by intro d h; cases h; rfl⟩

theorem witness_ControlStateFrame :
    (∃ t, exec .ld_mHL_A zero = .next t) ∧
    (∀ d, Instr.ld_mHL_A.descriptor = some d → writesSp d = false ∧ d ≠ .di ∧ d ≠ .ei ∧ d ≠ .reti ∧ d ≠ .halt ∧ d ≠ .stop) ∧
    Instr.ld_mHL_A.descriptor ≠ none ∧
    (0xFFFF : Word) ∉ stores .ld_mHL_A zero ∧ (0xFF0F : Word) ∉ stores .ld_mHL_A zero ∧
    (0xFF50 : Word) ∉ stores .ld_mHL_A zero :=
  ⟨⟨_, rfl⟩, by intro d h; cases h; decide, by decide, by decide, by decide, by decide⟩

theorem witness_StepNeverChangesWhatTheHostSupplies : ∃ t, step (prog (base 1 0 0 0 0 0 0 0) [0xEA, 0x00, 0x20]) = .next t :=
  ⟨_, rfl⟩

theorem witness_HostMovesKeepInvariant : inv1.Inv := inv1_inv

theorem witness_EndedStateStands_run :
    RunEndsAt (launch [(0x0100, 0x76)]) steps 1 ∧ NoHostMove steps 1 ∧
    RunEndsIn (launch [(0x0100, 0x76)]) steps (runState (launch [(0x0100, 0x76)]) steps 1) :=
  ⟨test_run_ends_at_halt, fun _ _ => rfl, 1, test_run_ends_at_halt, rfl⟩

theorem witness_EndedStateStands :
    (idle1.Ended ∧ idle1.stopped = false) ∧ (({ zero with stopped := true } : State).Ended) := by decide

end Sys2Proof.Tests
end

section
/-! PROOFS for the scope family (spec/00_scope.md): every instruction completes (R5, R312), the operand selectors (R10), the
reset state, and what a step keeps of what the host supplies (R7, R40, R60). -/

namespace Sys2Proof.Machine

/-! ### Every instruction's meaning in one of two forms -/

/-- The only instructions without a descriptor are the unmapped bytes (R99). -/
theorem descriptor_cases (i : Instr) : (∃ d, i.descriptor = some d) ∨ ∃ op, i = .unmapped op := by
  cases i
  case unmapped op => exact .inr ⟨op, rfl⟩
  case prefixCb op2 =>
    rcases decodeFields_prefixed op2 with ⟨_, _, e⟩ | ⟨_, _, e⟩ | ⟨_, _, e⟩ | ⟨_, _, e⟩ <;>
      exact .inl ⟨_, congrArg DecodeResult.descriptor? e⟩
  all_goals exact .inl ⟨_, rfl⟩

/-- What `exec` answers: the shared operation of the descriptor, or the decode failure of an unmapped byte (R310). -/
theorem exec_cases (i : Instr) (s : State) :
    (∃ d, i.descriptor = some d ∧ exec i s = .next (meaningOf d (byteOf i) (wordOf i) s)) ∨
    (∃ op, i = .unmapped op ∧ exec i s = .next (s.decodeFail op)) := by
  rcases descriptor_cases i with ⟨d, hd⟩ | ⟨op, rfl⟩
  · exact .inl ⟨d, hd, exec_of_descriptor i d s hd⟩
  · exact .inr ⟨op, rfl, rfl⟩

/-- Settles O52: both forms of a meaning answer a next state. -/
theorem everyInstructionCompletes : Obligations.EveryInstructionCompletes := by
  intro i s
  rcases exec_cases i s with ⟨_, _, h⟩ | ⟨_, _, h⟩
  · exact ⟨_, h⟩
  · exact ⟨_, h⟩

/-! ### What the host supplies -/

/-- A bus write leaves the cartridge as it was, or the cartridge receives it (R53, R58). -/
theorem State.busWrite_cart_cases (s : State) (a : Word) (v : Byte) :
    (s.busWrite a v).cart = s.cart ∨ (s.busWrite a v).cart = s.cart.cartWrite a v := by
  unfold State.busWrite
  cases ownerOf false a
  case cart => exact .inr rfl
  case io => exact .inl (by dsimp only; split <;> rfl)
  all_goals exact .inl rfl

/-- A bus write leaves the video owner as it was, or the video owner receives it (R53, R59). -/
theorem State.busWrite_vram_cases (s : State) (a : Word) (v : Byte) :
    (s.busWrite a v).vram = s.vram ∨ (s.busWrite a v).vram = s.vram.vramWrite (a - 0x8000) v := by
  unfold State.busWrite
  cases ownerOf false a
  case vram => exact .inr rfl
  case io => exact .inl (by dsimp only; split <;> rfl)
  all_goals exact .inl rfl

/-- The writes the cartridge has received are only ever added to. -/
theorem External.cartWrite_suffix (x : External) (a : Word) (v : Byte) : x.writes <:+ (x.cartWrite a v).writes :=
  List.suffix_cons _ _

/-- From `s` to `t` everything the host supplies is kept (R7, R40, R60): the parameters, the boot ROM and the fixed answers
of the two external owners are the same, and the writes these received are only added to. -/
structure State.SuppliesKept (s t : State) : Prop where
  params     : t.params = s.params
  bootRom    : t.bootRom = s.bootRom
  cartImage  : t.cart.image = s.cart.image
  vramImage  : t.vram.image = s.vram.image
  cartWrites : s.cart.writes <:+ t.cart.writes
  vramWrites : s.vram.writes <:+ t.vram.writes

namespace State.SuppliesKept

variable {s t u : State}

theorem refl (s : State) : s.SuppliesKept s := ⟨rfl, rfl, rfl, rfl, List.suffix_rfl, List.suffix_rfl⟩

theorem trans (h : s.SuppliesKept t) (k : t.SuppliesKept u) : s.SuppliesKept u where
  params     := k.params.trans h.params
  bootRom    := k.bootRom.trans h.bootRom
  cartImage  := k.cartImage.trans h.cartImage
  vramImage  := k.vramImage.trans h.vramImage
  cartWrites := h.cartWrites.trans k.cartWrites
  vramWrites := h.vramWrites.trans k.vramWrites

/-- It reads only these four fields of the later state. -/
theorem congr (h : s.SuppliesKept t) (hp : u.params = t.params) (hb : u.bootRom = t.bootRom) (hc : u.cart = t.cart)
    (hv : u.vram = t.vram) : s.SuppliesKept u :=
  h.trans ⟨hp, hb, congrArg _ hc, congrArg _ hv, hc ▸ List.suffix_rfl, hv ▸ List.suffix_rfl⟩

theorem ite {p : Prop} [Decidable p] (h : s.SuppliesKept t) (k : s.SuppliesKept u) :
    s.SuppliesKept (if p then t else u) := by
  split
  · exact h
  · exact k

/-! What every operation on the state keeps. -/

theorem setReg (h : s.SuppliesKept t) (x : Reg) (v : Byte) : s.SuppliesKept (t.setReg x v) := h.congr rfl rfl rfl rfl

theorem setPair (h : s.SuppliesKept t) (p : Pair) (v : Word) : s.SuppliesKept (t.setPair p v) := h.congr rfl rfl rfl rfl

theorem setFlags (h : s.SuppliesKept t) (z n hf c : Bool) : s.SuppliesKept (t.setFlags z n hf c) :=
  h.congr rfl rfl rfl rfl

theorem setSp (h : s.SuppliesKept t) (v : Word) : s.SuppliesKept (t.setSp v) := h.congr rfl rfl rfl rfl

theorem jump (h : s.SuppliesKept t) (a : Word) : s.SuppliesKept (t.jump a) := h.congr rfl rfl rfl rfl

theorem setTaken (h : s.SuppliesKept t) (b : Bool) : s.SuppliesKept { t with taken := b } := h.congr rfl rfl rfl rfl

/-- The bus is where writes reach the external owners: each receives the write or is left alone. -/
theorem busWrite (h : s.SuppliesKept t) (a : Word) (v : Byte) : s.SuppliesKept (t.busWrite a v) := by
  have hc : t.cart.writes <:+ (t.busWrite a v).cart.writes := by
    rcases t.busWrite_cart_cases a v with e | e
    · exact e ▸ List.suffix_rfl
    · exact e ▸ t.cart.cartWrite_suffix a v
  have hv : t.vram.writes <:+ (t.busWrite a v).vram.writes := by
    rcases t.busWrite_vram_cases a v with e | e
    · exact e ▸ List.suffix_rfl
    · exact e ▸ t.vram.vramWrite_suffix _ v
  exact h.trans ⟨by simp, by simp, by simp, by simp, hc, hv⟩

theorem push16 (h : s.SuppliesKept t) (v : Word) : s.SuppliesKept (t.push16 v) := by
  rw [State.push16_eq]
  exact ((h.busWrite _ _).busWrite _ _).setSp _

theorem pop16 (h : s.SuppliesKept t) : s.SuppliesKept t.pop16.2 := by
  rw [State.pop16_snd]
  exact h.setSp _

theorem writeR8 (h : s.SuppliesKept t) (x : R8) (v : Byte) : s.SuppliesKept (t.writeR8 x v) := by
  rcases t.writeR8_cases x v with ⟨_, e⟩ | ⟨_, r, _, e⟩ <;> rw [e]
  · exact h.busWrite _ _
  · exact h.setReg _ _

theorem writeR16 (h : s.SuppliesKept t) (x : R16) (v : Word) : s.SuppliesKept (t.writeR16 x v) :=
  h.congr (by simp) (by simp) (by simp) (by simp)

theorem postStep (h : s.SuppliesKept t) (m : R16Mem) : s.SuppliesKept (t.postStep m) :=
  h.congr (by simp) (by simp) (by simp) (by simp)

theorem aluApply (h : s.SuppliesKept t) (op : AluOp) (v : Byte) : s.SuppliesKept (aluApply op v t) := by
  cases op <;> exact h.congr rfl rfl rfl rfl

theorem callA16 (h : s.SuppliesKept t) (a : Word) : s.SuppliesKept (callA16 a t) := (h.push16 _).jump a

theorem retOp (h : s.SuppliesKept t) : s.SuppliesKept (retOp t) := h.pop16.jump _

theorem endInstr (h : s.SuppliesKept t) (w isDi : Bool) : s.SuppliesKept (t.endInstr w isDi) :=
  ite (h.congr rfl rfl rfl rfl) h

theorem finish (h : s.SuppliesKept t) (i : Instr) (w : Bool) :
    s.SuppliesKept (t.finish i w) := by
  rcases descriptor_cases i with ⟨d, hd⟩ | ⟨op, rfl⟩
  · rw [State.finish_of_descriptor i d w t hd]
    exact (h.endInstr w _).congr rfl rfl rfl rfl
  · exact h.congr rfl rfl rfl rfl

end State.SuppliesKept

open State (SuppliesKept)

/-- Every descriptor's operation keeps what the host supplies, case by case along its writes. -/
theorem meaningOf_suppliesKept (d : Descriptor) (n : Byte) (a : Word) (s : State) :
    s.SuppliesKept (meaningOf d n a s) := by
  have h := SuppliesKept.refl s
  cases d with
  | nop => exact h
  | stop | di => exact h.congr rfl rfl rfl rfl
  | halt | ei => exact .ite (h.congr rfl rfl rfl rfl) (h.congr rfl rfl rfl rfl)
  | ldR8R8 dst _ | ldR8N8 dst => exact h.writeR8 dst _
  | ldR16N16 r | incR16 r | decR16 r => exact h.writeR16 r _
  | ldR16memA m => exact (h.busWrite _ _).postStep m
  | ldAR16mem m => exact (h.setReg _ _).postStep m
  | ldA16A | ldhA8A | ldhCA => exact h.busWrite _ _
  | ldAA16 | ldhAA8 | ldhAC => exact h.setReg _ _
  | ldA16Sp => exact (h.busWrite _ _).busWrite _ _
  | ldSpHl => exact h.setSp _
  | ldHlSpE8 | addHlR16 _ => exact (h.setPair _ _).setFlags _ _ _ _
  | addSpE8 => exact (h.setSp _).setFlags _ _ _ _
  | aluR8 op _ | aluN8 op => exact h.aluApply op _
  | incR8 r | decR8 r | rot _ r => exact (h.writeR8 r _).setFlags _ _ _ _
  | res _ r | set _ r => exact h.writeR8 r _
  | jpA16 | jpHl | jrE8 => exact h.jump _
  | jpCcA16 _ | jrCcE8 _ => exact .ite ((h.jump _).setTaken _) (h.setTaken _)
  | callA16 => exact h.callA16 a
  | callCcA16 _ => exact .ite ((h.callA16 a).setTaken _) (h.setTaken _)
  | ret => exact h.retOp
  | retCc _ => exact .ite (h.retOp.setTaken _) (h.setTaken _)
  | reti => exact h.pop16.congr rfl rfl rfl rfl
  | rst _ => exact (h.push16 _).jump _
  | push _ => exact h.push16 _
  | pop _ => exact h.pop16.setPair _ _
  | daa | cpl | rlca | rrca | rla | rra => exact (h.setReg _ _).setFlags _ _ _ _
  | scf | ccf | bit _ _ => exact h.setFlags _ _ _ _

theorem exec_suppliesKept {i : Instr} {s t : State} (h : exec i s = .next t) : s.SuppliesKept t := by
  rcases exec_cases i s with ⟨d, _, e⟩ | ⟨op, _, e⟩ <;> (rw [e] at h; cases h)
  · exact meaningOf_suppliesKept d _ _ s
  · exact (SuppliesKept.refl s).congr rfl rfl rfl rfl

theorem fetchInstr_suppliesKept (s : State) : s.SuppliesKept s.fetchInstr.2 := by
  rcases s.fetchInstr_cases with ⟨_, e⟩ | ⟨i, _, _, _, e⟩ <;> rw [e]
  · exact .refl s
  · exact (SuppliesKept.refl s).congr rfl rfl rfl rfl

theorem runInstr_suppliesKept {s t : State} (h : runInstr s = .next t) : s.SuppliesKept t := by
  obtain ⟨u, hu, rfl⟩ := runInstr_cases h
  exact ((fetchInstr_suppliesKept s).trans (exec_suppliesKept hu)).finish _ _

theorem dispatch_suppliesKept (s : State) (src : Source) : s.SuppliesKept (s.dispatch src) :=
  ((SuppliesKept.refl s).push16 s.pc).congr rfl rfl rfl rfl

/-- Every step keeps what the host supplies: a refusal and an idle step write no field of it, a dispatch only pushes. -/
theorem step_suppliesKept {s t : State} (h : step s = .next t) : s.SuppliesKept t := by
  obtain ⟨_, ⟨_, _, _, _, rfl⟩ | ⟨src, _, _, _, rfl⟩ | ⟨_, _, rfl⟩ | ⟨_, _, hr⟩⟩ := step_cases h
  · exact (SuppliesKept.refl s).congr rfl rfl rfl rfl
  · exact (dispatch_suppliesKept s src).congr rfl rfl rfl rfl
  · exact (SuppliesKept.refl s).congr rfl rfl rfl rfl
  · exact runInstr_suppliesKept hr

/-- Settles O57, field by field of `State.SuppliesKept`. -/
theorem stepNeverChangesWhatTheHostSupplies : Obligations.StepNeverChangesWhatTheHostSupplies := by
  intro s t h
  obtain ⟨hp, hb, hci, hvi, hcw, hvw⟩ := step_suppliesKept h
  exact ⟨hp, hb, hci, hvi, hcw, hvw⟩

/-! ### Reset and the operand selectors -/

/-- Settles O2: the masked F of zero draws is zero, and every other field is the draw or the value of R41. -/
theorem resetIsPowerOnOfZeroDraws : Obligations.ResetIsPowerOnOfZeroDraws := ⟨rfl, rfl, rfl⟩

/-- Settles O22: the selectors name registers, the bus at HL, pairs and flags, each by the definition of its access. -/
theorem operandSelectors : Obligations.OperandSelectors := by
  intro s v w
  refine ⟨?readR8, ?writeR8, ?readR16, ?writeR16, ?stkRead, ?stkWrite, ?memAddr, ?postStep, ?cond, ?codes⟩
  case readR8 => exact ⟨rfl, rfl, rfl, rfl, rfl, rfl, rfl, rfl⟩
  case writeR8 => exact ⟨rfl, rfl, rfl, rfl, rfl, rfl, rfl, rfl⟩
  case readR16 => exact ⟨rfl, rfl, rfl, rfl⟩
  case writeR16 => exact ⟨rfl, rfl, rfl, rfl⟩
  case stkRead => exact ⟨rfl, rfl, rfl, rfl⟩
  case stkWrite => exact ⟨rfl, rfl, rfl, rfl⟩
  case memAddr => exact ⟨rfl, rfl, rfl, rfl⟩
  case postStep => exact ⟨rfl, rfl, rfl, rfl⟩
  case cond => exact ⟨rfl, rfl, rfl, rfl⟩
  case codes => decide

end Sys2Proof.Machine
end

section
/-! PROOFS for the state family (spec/10_state.md): the power-on state (R41), registers, pairs and flags (R20 to R25), and the
invariants that every step and every host move keep (R42). -/

namespace Sys2Proof.Machine

open Sys2Proof.Claims

/-! ### What an instruction's updates keep

An instruction is made of register writes, bus writes and changes of SP, PC, IME, the pending EI and `taken`; HALT and STOP
alone set a wait. The case split over the descriptors is made once, for every predicate that these updates keep. -/

/-- The state `s` with the fields that an instruction other than HALT and STOP sets directly, taken from `c`. -/
def State.withFlow (s c : State) : State :=
  { s with sp := c.sp, pc := c.pc, ime := c.ime, eiPending := c.eiPending, taken := c.taken }

/-- `P` is kept by writes of the registers in `R`, by bus writes, and by the control fields of `State.withFlow`. -/
structure KeptByOps (R : List Reg) (P : State → Prop) : Prop where
  setReg   : ∀ {s : State} {x : Reg} (v : Byte), x ∈ R → P s → P (s.setReg x v)
  busWrite : ∀ {s : State} (a : Word) (v : Byte), P s → P (s.busWrite a v)
  flow     : ∀ {s : State} (c : State), P s → P (s.withFlow c)

namespace KeptByOps

variable {R : List Reg} {P : State → Prop} {s : State} (k : KeptByOps R P)
include k

theorem setFlags (hR : Reg.f ∈ R) (z n hf c : Bool) (h : P s) : P (s.setFlags z n hf c) := k.setReg _ hR h

theorem setPair {p : Pair} (hR : pairRegs p ⊆ R) (v : Word) (h : P s) : P (s.setPair p v) :=
  k.setReg _ (hR (by simp [pairRegs])) (k.setReg _ (hR (by simp [pairRegs])) h)

theorem setSp (v : Word) (h : P s) : P (s.setSp v) := k.flow (s.setSp v) h

theorem jump (a : Word) (h : P s) : P (s.jump a) := k.flow (s.jump a) h

theorem setTaken (b : Bool) (h : P s) : P { s with taken := b } := k.flow { s with taken := b } h

theorem push16 (v : Word) (h : P s) : P (s.push16 v) := by
  rw [State.push16_eq]
  exact k.setSp _ (k.busWrite _ _ (k.busWrite _ _ h))

theorem pop16 (h : P s) : P s.pop16.2 := by
  rw [State.pop16_snd]
  exact k.setSp _ h

theorem writeR8 {r : R8} (hR : regOf r ⊆ R) (v : Byte) (h : P s) : P (s.writeR8 r v) := by
  cases r with
  | hlInd => exact k.busWrite _ v h
  | _ => exact k.setReg v (hR List.mem_cons_self) h

theorem writeR16 {r : R16} (hR : r16Regs r ⊆ R) (v : Word) (h : P s) : P (s.writeR16 r v) := by
  cases r with
  | sp => exact k.setSp v h
  | _ => exact k.setPair hR v h

theorem postStep {m : R16Mem} (hR : stepRegs m ⊆ R) (h : P s) : P (s.postStep m) := by
  cases m with
  | bc | de => exact h
  | hlInc | hlDec => exact k.setPair hR _ h

/-- Every `alu` operation writes the flags, and A unless it is CP. -/
theorem aluApply {op : AluOp} (hR : (if op = .cp then [Reg.f] else [Reg.a, Reg.f]) ⊆ R) (v : Byte) (h : P s) :
    P (aluApply op v s) := by
  cases op with
  | cp => exact k.setFlags (hR (by decide)) _ _ _ _ h
  | _ => exact k.setFlags (hR (by decide)) _ _ _ _ (k.setReg _ (hR (by decide)) h)

theorem callA16 (a : Word) (h : P s) : P (callA16 a s) := k.jump a (k.push16 _ h)

theorem retOp (h : P s) : P (retOp s) := k.jump _ (k.pop16 h)

/-- The accumulator operations: A, then the flags. -/
theorem setAF (ha : Reg.a ∈ R) (hf : Reg.f ∈ R) (v : Byte) (z n hc c : Bool) (h : P s) :
    P ((s.setReg .a v).setFlags z n hc c) :=
  k.setFlags hf _ _ _ _ (k.setReg v ha h)

end KeptByOps

/-- What writes of a descriptor's destinations, bus writes and control updates keep, the descriptor's operation keeps; the two
that set a wait are the caller's. -/
theorem meaningOf_keeps {P : State → Prop} (d : Descriptor) (n : Byte) (a : Word) (s : State)
    (k : KeptByOps (destRegs d) P) (hHalt : d = .halt → P (haltOp s)) (hStop : d = .stop → P (stopOp s)) (h : P s) :
    P (meaningOf d n a s) := by
  cases d with
  | nop => exact h
  | halt => exact hHalt rfl
  | stop => exact hStop rfl
  | di => exact k.flow (diOp s) h
  | ei => exact iteInduction (fun _ => k.flow { s with eiPending := true } h) (fun _ => k.flow { s with ime := true } h)
  | ldR8R8 | ldR8N8 | res | set => exact k.writeR8 (List.Subset.refl _) _ h
  | ldR16N16 | incR16 | decR16 => exact k.writeR16 (List.Subset.refl _) _ h
  | ldR16memA => exact k.postStep (List.Subset.refl _) (k.busWrite _ _ h)
  | ldAR16mem => exact k.postStep (List.subset_cons_self _ _) (k.setReg _ List.mem_cons_self h)
  | ldA16A | ldhA8A | ldhCA => exact k.busWrite _ _ h
  | ldAA16 | ldhAA8 | ldhAC => exact k.setReg _ List.mem_cons_self h
  | ldA16Sp => exact k.busWrite _ _ (k.busWrite _ _ h)
  | ldSpHl => exact k.setSp _ h
  | ldHlSpE8 | addHlR16 =>
    exact k.setFlags (by simp [destRegs]) _ _ _ _ (k.setPair (by simp [destRegs, pairRegs, Pair.hi, Pair.lo]) _ h)
  | addSpE8 => exact k.setFlags (by decide) _ _ _ _ (k.setSp _ h)
  | aluR8 | aluN8 => exact k.aluApply (List.Subset.refl _) _ h
  | incR8 | decR8 | rot =>
    exact k.setFlags List.mem_cons_self _ _ _ _ (k.writeR8 (List.subset_cons_self _ _) _ h)
  | jpA16 | jpHl | jrE8 => exact k.jump _ h
  | jpCcA16 | jrCcE8 => exact iteInduction (fun _ => k.setTaken true (k.jump _ h)) (fun _ => k.setTaken false h)
  | callA16 => exact k.callA16 a h
  | callCcA16 => exact iteInduction (fun _ => k.setTaken true (k.callA16 a h)) (fun _ => k.setTaken false h)
  | ret => exact k.retOp h
  | retCc => exact iteInduction (fun _ => k.setTaken true (k.retOp h)) (fun _ => k.setTaken false h)
  | reti => exact k.flow s.returnFromInterrupt (k.pop16 h)
  | rst => exact k.jump _ (k.push16 _ h)
  | push => exact k.push16 _ h
  | pop => exact k.setPair (List.Subset.refl _) _ (k.pop16 h)
  | daa | cpl | rlca | rrca | rla | rra => exact k.setAF (by decide) (by decide) _ _ _ _ _ h
  | scf | ccf | bit => exact k.setFlags List.mem_cons_self _ _ _ _ h

/-! ### What HALT leaves alone, in both of its cases (R210) -/

@[simp] theorem haltOp_stopped (s : State) : (haltOp s).stopped = s.stopped := by
  unfold haltOp
  split <;> rfl

@[simp] theorem haltOp_regs (s : State) : (haltOp s).regs = s.regs := by
  unfold haltOp
  split <;> rfl

/-! ### What a step and a host move keep -/

/-- The state `s` with every field outside the data taken from `c`: SP, PC, the interrupt state, the waits, the HALT bug, the
terminal records, and what a step records. -/
def State.withControl (s c : State) : State :=
  { s with
    sp := c.sp, pc := c.pc, ime := c.ime, ie := c.ie, intFlag := c.intFlag, eiPending := c.eiPending
    halted := c.halted, stopped := c.stopped, haltBug := c.haltBug, fault := c.fault, refused := c.refused
    taken := c.taken, report := c.report }

/-- The end of an instruction changes IME, the pending EI and the report (R215, R335). -/
theorem State.finish_shape (t : State) (i : Instr) (w : Bool) :
    t.finish i w =
      { t with ime := (t.finish i w).ime, eiPending := (t.finish i w).eiPending, report := (t.finish i w).report } := by
  rcases descriptor_cases i with ⟨d, hd⟩ | ⟨op, rfl⟩
  · rw [State.finish_of_descriptor i d w t hd]
    unfold State.endInstr
    split <;> rfl
  · rfl

@[simp] theorem State.finish_halted (t : State) (i : Instr) (w : Bool) : (t.finish i w).halted = t.halted := by
  rw [State.finish_shape]

@[simp] theorem State.finish_stopped (t : State) (i : Instr) (w : Bool) : (t.finish i w).stopped = t.stopped := by
  rw [State.finish_shape]

/-- `P` is kept by every register write and bus write, and does not depend on the fields of `State.withControl`. -/
structure KeptByStep (P : State → Prop) : Prop where
  setReg   : ∀ {s : State} (x : Reg) (v : Byte), P s → P (s.setReg x v)
  busWrite : ∀ {s : State} (a : Word) (v : Byte), P s → P (s.busWrite a v)
  control  : ∀ {s : State} (c : State), P s → P (s.withControl c)

namespace KeptByStep

variable {P : State → Prop} {s t : State} (k : KeptByStep P)
include k

theorem ops (R : List Reg) : KeptByOps R P where
  setReg v _ := k.setReg _ v
  busWrite := k.busWrite
  flow {s} c := k.control (s.withFlow c)

theorem meaningOf (d : Descriptor) (n : Byte) (a : Word) (h : P s) : P (meaningOf d n a s) :=
  meaningOf_keeps d n a s (k.ops _)
    (fun _ => iteInduction (fun _ => k.control { s with haltBug := true } h)
      (fun _ => k.control { s with halted := true } h))
    (fun _ => k.control (stopOp s) h) h

theorem exec {i : Instr} (e : exec i s = .next t) (h : P s) : P t := by
  rcases exec_cases i s with ⟨d, _, e'⟩ | ⟨op, _, e'⟩ <;> (rw [e'] at e; cases e)
  · exact k.meaningOf d _ _ h
  · exact k.control (s.decodeFail op) h

theorem fetchInstr (h : P s) : P s.fetchInstr.2 := by
  rcases s.fetchInstr_cases with ⟨_, e⟩ | ⟨i, _, _, _, e⟩ <;> rw [e]
  · exact h
  · exact k.control (s.pastBytes _) h

theorem finish (i : Instr) (w : Bool) (h : P s) : P (s.finish i w) := by
  rw [State.finish_shape]
  exact k.control
    { s with ime := (s.finish i w).ime, eiPending := (s.finish i w).eiPending, report := (s.finish i w).report } h

theorem runInstr (e : runInstr s = .next t) (h : P s) : P t := by
  obtain ⟨u, hu, rfl⟩ := runInstr_cases e
  exact k.finish _ _ (k.exec hu (k.fetchInstr h))

/-- A dispatch pushes PC; everything else it does is control. -/
theorem dispatchStep (src : Source) (h : P s) : P (dispatchStep s src) :=
  k.control (s := s.push16 s.pc) (Machine.dispatchStep s src) ((k.ops []).push16 s.pc h)

theorem step (e : step s = .next t) (h : P s) : P t := by
  obtain ⟨_, ⟨_, _, _, _, rfl⟩ | ⟨src, _, _, _, rfl⟩ | ⟨_, _, rfl⟩ | ⟨_, _, hr⟩⟩ := step_cases e
  · exact k.control (refuseDispatch s) h
  · exact k.dispatchStep src h
  · exact k.control (idleStep s) h
  · exact k.runInstr hr h

/-- The host's moves: an IF bit and the wake are control, and the joypad setter stores what a bus write of 0xFF00 stores. -/
theorem hostMove (m : HostMove) (h : P s) : P (m.apply s) := by
  cases m with
  | raise src => exact k.control ((HostMove.raise src).apply s) h
  | joypad v => exact k.busWrite 0xFF00 v h
  | wake => exact k.control (HostMove.wake.apply s) h

end KeptByStep

theorem dataInv_keptByStep : KeptByStep State.DataInv where
  setReg x v h := h.setReg x v
  busWrite a v h := h.busWrite a v
  control _ h := h.congr rfl rfl rfl rfl rfl

theorem flagsClean_keptByStep : KeptByStep State.FlagsClean where
  setReg x v h := Regs.put_clean _ x v h
  busWrite a v h := by simpa [State.FlagsClean] using h
  control _ h := h

theorem bootUnmapped_keptByStep : KeptByStep (fun s => s.bootMapped = false) where
  setReg _ _ h := h
  busWrite a v h := by rw [State.busWrite_bootMapped, h, Bool.false_and]
  control _ h := h

/-! ### The wait states -/

theorem State.oneWait_of_running {s : State} (h : s.stopped = false) : s.OneWait :=
  fun hw => Bool.false_ne_true (h.symm.trans hw.2)

theorem State.oneWait_of_awake {s : State} (h : s.halted = false) : s.OneWait :=
  fun hw => Bool.false_ne_true (h.symm.trans hw.1)

theorem stopped_keptByOps (R : List Reg) (b : Bool) : KeptByOps R (fun s => s.stopped = b) where
  setReg _ _ h := h
  busWrite a v h := (State.busWrite_stopped _ a v).trans h
  flow _ h := h

/-- Only STOP sets `stopped` (R211). -/
theorem meaningOf_stopped {d : Descriptor} (hd : d ≠ .stop) (n : Byte) (a : Word) (s : State) :
    (meaningOf d n a s).stopped = s.stopped :=
  meaningOf_keeps d n a s (stopped_keptByOps _ s.stopped)
    (fun _ => haltOp_stopped s) (fun h => absurd h hd) rfl

/-- An awake, running core is in at most one wait state after any instruction: STOP leaves `halted` alone, and every other one
leaves `stopped` alone. -/
theorem exec_oneWait {i : Instr} {s t : State} (h : exec i s = .next t) (hs : s.stopped = false)
    (hh : i.descriptor = some .stop → s.halted = false) : t.OneWait := by
  rcases exec_cases i s with ⟨d, hd, e⟩ | ⟨op, _, e⟩ <;> (rw [e] at h; cases h)
  · by_cases hstop : d = .stop
    · subst hstop
      exact State.oneWait_of_awake (hh hd)
    · exact State.oneWait_of_running ((meaningOf_stopped hstop _ _ s).trans hs)
  · exact State.oneWait_of_running hs

theorem runInstr_oneWait {s t : State} (h : runInstr s = .next t) (hs : s.stopped = false) : t.OneWait := by
  obtain ⟨u, hu, rfl⟩ := runInstr_cases h
  have hw : u.OneWait := by
    rcases s.fetchInstr_cases with ⟨_, e⟩ | ⟨i, _, _, _, e⟩ <;> rw [e] at hu
    · exact exec_oneWait hu hs (fun hd => nomatch hd)
    · exact exec_oneWait hu hs (fun _ => rfl)
  simpa [State.OneWait] using hw

/-- Every step ends in at most one wait state: it starts in a running core, and a core that fetches an instruction is awake. -/
theorem step_oneWait {s t : State} (h : step s = .next t) : t.OneWait := by
  obtain ⟨⟨_, _, hs⟩, ⟨_, _, _, _, rfl⟩ | ⟨src, _, _, _, rfl⟩ | ⟨_, _, rfl⟩ | ⟨_, _, hr⟩⟩ := step_cases h
  · exact State.oneWait_of_running hs
  · exact State.oneWait_of_awake rfl
  · exact State.oneWait_of_running hs
  · exact runInstr_oneWait hr hs

theorem HostMove.apply_oneWait (m : HostMove) {s : State} (h : s.OneWait) : (m.apply s).OneWait := by
  cases m with
  | raise | joypad => exact h
  | wake => exact State.oneWait_of_running rfl

/-! ### The invariants of R42 -/

/-- Settles O4: the data part is kept by every update of a step, and every step ends in at most one wait state. -/
theorem stepKeepsInvariant : Obligations.StepKeepsInvariant :=
  fun _ _ hi h => (dataInv_keptByStep.step h hi.data).inv (step_oneWait h)

/-- Settles O5: clean flags and the unmapped boot ROM are kept by every update of a step; a step has no terminal record. -/
theorem stepKeepsArchitecturalInvariants : Obligations.StepKeepsArchitecturalInvariants := by
  intro s t h
  obtain ⟨⟨hfault, hrefused, _⟩, _⟩ := step_cases h
  exact ⟨flagsClean_keptByStep.step h, bootUnmapped_keptByStep.step h, ⟨hfault, hrefused⟩, fun _ => step_oneWait h⟩

/-- Settles O59: a host move is made of the same updates as a step. -/
theorem hostMovesKeepInvariant : Obligations.HostMovesKeepInvariant :=
  fun m _ hi => (dataInv_keptByStep.hostMove m hi.data).inv (m.apply_oneWait hi.oneWait)

/-! ### Registers, pairs and flags -/

/-- A byte masked as F is has a clear low nibble (R22). -/
theorem and_F0_and_0F (v : Byte) : v &&& 0xF0 &&& 0x0F = 0 := by
  rw [BitVec.and_assoc]
  exact BitVec.and_zero

/-- Masking the low byte of a word masks the word (R22, R23). -/
theorem joinBytes_and_F0 (hi lo : Byte) : joinBytes hi (lo &&& 0xF0) = joinBytes hi lo &&& 0xFFF0 := by
  have h : (0xFFF0 : Word) = BitVec.allOnes 8 ++ (0xF0 : Byte) := rfl
  rw [h]
  unfold joinBytes
  rw [BitVec.and_append, BitVec.and_allOnes]

/-- The word of a pair just written: the word, AF masked. -/
theorem State.pair_setPair_same (s : State) (p : Pair) (v : Word) :
    (s.setPair p v).pair p = if p = .af then v &&& 0xFFF0 else v := by
  cases p with
  | af =>
    have h : (s.setPair .af v).pair .af = joinBytes (hiByte v) (loByte v &&& 0xF0 &&& 0xF0) := rfl
    rw [h, BitVec.and_assoc, BitVec.and_self, joinBytes_and_F0, joinBytes_hi_lo]
    rfl
  | _ => exact joinBytes_hi_lo v

/-- Settles O20: each pair by its two registers, and a read after a write by `State.pair_setPair_same`. -/
theorem pairsAreTwoRegisters : Obligations.PairsAreTwoRegisters := by
  intro s v
  refine ⟨⟨rfl, rfl, rfl, rfl⟩, ⟨rfl, rfl, rfl, rfl⟩, fun p hp => ?_, ?_⟩
  · rw [State.pair_setPair_same, if_neg hp]
  · rw [State.pair_setPair_same, if_pos rfl]

@[simp] theorem State.flagZ_setFlags (s : State) (z n h c : Bool) : (s.setFlags z n h c).flagZ = z := by
  rw [State.setFlags_eq]
  exact (packFlags_bits z n h c).1

@[simp] theorem State.flagN_setFlags (s : State) (z n h c : Bool) : (s.setFlags z n h c).flagN = n := by
  rw [State.setFlags_eq]
  exact (packFlags_bits z n h c).2.1

@[simp] theorem State.flagH_setFlags (s : State) (z n h c : Bool) : (s.setFlags z n h c).flagH = h := by
  rw [State.setFlags_eq]
  exact (packFlags_bits z n h c).2.2.1

@[simp] theorem State.flagC_setFlags (s : State) (z n h c : Bool) : (s.setFlags z n h c).flagC = c := by
  rw [State.setFlags_eq]
  exact (packFlags_bits z n h c).2.2.2

/-- The byte of four flags as a sum of their weights (R24). -/
theorem packFlags_eq_sum (z n h c : Bool) :
    packFlags z n h c =
      (if z then 0x80 else 0) + (if n then 0x40 else 0) + (if h then 0x20 else 0) + (if c then 0x10 else 0) := by
  cases z <;> cases n <;> cases h <;> cases c <;> decide

/-- Settles O21: a write of F masks it, a read masks it again, and the four flags are the bits of the packed byte. -/
theorem flagByteLayout : Obligations.FlagByteLayout := by
  refine ⟨fun _ _ => rfl, fun _ _ => rfl, fun s => ⟨and_F0_and_0F _, ?_⟩, fun s z n h c => ⟨?_, ?_, ?_, ?_, ?_⟩⟩
  · have hp : s.pair .af = joinBytes s.regs.a (s.regs.f &&& 0xF0) := rfl
    rw [hp, joinBytes_and_F0, BitVec.and_assoc]
    exact BitVec.and_zero
  · rw [State.setFlags_eq]
    exact packFlags_eq_sum z n h c
  · exact s.flagZ_setFlags z n h c
  · exact s.flagN_setFlags z n h c
  · exact s.flagH_setFlags z n h c
  · exact s.flagC_setFlags z n h c

/-! ### The columns of the flags -/

/-- No selector and no step of HL names F. -/
theorem f_not_mem_regOf (r : R8) : Reg.f ∉ regOf r := by cases r <;> decide
theorem f_not_mem_r16Regs (r : R16) : Reg.f ∉ r16Regs r := by cases r <;> decide
theorem f_not_mem_stepRegs (m : R16Mem) : Reg.f ∉ stepRegs m := by cases m <;> decide

/-- An instruction that writes no H writes no flag: F is not among its destinations. -/
theorem f_not_mem_destRegs {d : Descriptor} (h : writesH d = false) : Reg.f ∉ destRegs d := by
  cases d with
  | ldR8R8 dst | ldR8N8 dst => exact f_not_mem_regOf dst
  | res _ r | set _ r => exact f_not_mem_regOf r
  | ldR16N16 r | incR16 r | decR16 r => exact f_not_mem_r16Regs r
  | ldR16memA m => exact f_not_mem_stepRegs m
  | ldAR16mem m => exact List.not_mem_cons_of_ne_of_not_mem (by decide) (f_not_mem_stepRegs m)
  | pop r =>
    cases r with
    | af => cases h
    | _ => decide
  | ldAA16 | ldhAA8 | ldhAC => decide
  | nop | stop | halt | di | ei | ldA16A | ldhA8A | ldhCA | ldA16Sp | ldSpHl => exact List.not_mem_nil
  | jpA16 | jpCcA16 | jpHl | jrE8 | jrCcE8 | callA16 | callCcA16 => exact List.not_mem_nil
  | ret | retCc | reti | rst | push => exact List.not_mem_nil
  | _ => cases h

theorem f_keptByOps {R : List Reg} (hR : Reg.f ∉ R) (v : Byte) : KeptByOps R (fun s => s.regs.f = v) where
  setReg {s x} w hx h := by
    cases x with
    | f => exact absurd hx hR
    | _ => exact h
  busWrite a w h := by simpa using h
  flow _ h := h

/-- An instruction that writes no H leaves F as it was. -/
theorem meaningOf_f {d : Descriptor} (hd : writesH d = false) (n : Byte) (a : Word) (s : State) :
    (meaningOf d n a s).regs.f = s.regs.f :=
  meaningOf_keeps d n a s (f_keptByOps (f_not_mem_destRegs hd) s.regs.f)
    (fun _ => congrArg Regs.f (haltOp_regs s)) (fun _ => rfl) rfl

/-- Outside the column of Z are the instructions that write no flag, and ADD HL, CPL, SCF and CCF, which pass Z on. -/
theorem meaningOf_flagZ {d : Descriptor} (hd : writesZ d = false) (n : Byte) (a : Word) (s : State) :
    (meaningOf d n a s).flagZ = s.flagZ := by
  cases hH : writesH d with
  | false => exact congrArg (·.getLsbD 7) (meaningOf_f hH n a s)
  | true =>
    cases d with
    | addHlR16 | cpl | scf | ccf => exact State.flagZ_setFlags _ _ _ _ _
    | _ => exact absurd (hd.symm.trans hH) Bool.false_ne_true

/-- Outside the column of C are the instructions that write no flag, and INC, DEC, CPL and BIT, which pass C on. -/
theorem meaningOf_flagC {d : Descriptor} (hd : writesC d = false) (n : Byte) (a : Word) (s : State) :
    (meaningOf d n a s).flagC = s.flagC := by
  cases hH : writesH d with
  | false => exact congrArg (·.getLsbD 4) (meaningOf_f hH n a s)
  | true =>
    cases d with
    | incR8 | decR8 | cpl | bit => exact State.flagC_setFlags _ _ _ _ _
    | _ => exact absurd (hd.symm.trans hH) Bool.false_ne_true

/-- Outside the column of N are the instructions that write no flag, and DAA, which passes N on. -/
theorem meaningOf_flagN {d : Descriptor} (hd : writesN d = false) (n : Byte) (a : Word) (s : State) :
    (meaningOf d n a s).flagN = s.flagN := by
  by_cases hdaa : d = .daa
  · subst hdaa
    exact State.flagN_setFlags _ _ _ _ _
  · have hH : writesH d = false := by simpa [writesN, hdaa] using hd
    exact congrArg (·.getLsbD 6) (meaningOf_f hH n a s)

theorem meaningOf_flagH {d : Descriptor} (hd : writesH d = false) (n : Byte) (a : Word) (s : State) :
    (meaningOf d n a s).flagH = s.flagH :=
  congrArg (·.getLsbD 5) (meaningOf_f hd n a s)

/-- Settles O55: column by column for a descriptor's operation; an unmapped byte's record leaves F alone. -/
theorem flagFrame : Obligations.FlagFrame := by
  intro i s t h
  rcases exec_cases i s with ⟨d, hd, e⟩ | ⟨op, _, e⟩ <;> (rw [e] at h; cases h)
  · exact ⟨fun hz => meaningOf_flagZ (hz d hd) _ _ s, fun hn => meaningOf_flagN (hn d hd) _ _ s,
      fun hh => meaningOf_flagH (hh d hd) _ _ s, fun hc => meaningOf_flagC (hc d hd) _ _ s⟩
  · exact ⟨fun _ => rfl, fun _ => rfl, fun _ => rfl, fun _ => rfl⟩

/-! ### Power-on and the unmapped bytes -/

/-- Settles O1: field by field; F's draw is masked. -/
theorem powerOnState : Obligations.PowerOnState := by
  intro d
  exact ⟨rfl, ⟨rfl, rfl, rfl, rfl, rfl, rfl, rfl⟩, ⟨rfl, and_F0_and_0F d.regs.f⟩, rfl, rfl, rfl, rfl, rfl, rfl, rfl, rfl,
    rfl, rfl, rfl, rfl⟩

/-- Settles O8: the meaning of an unmapped byte is the decode failure of R310. -/
theorem unmappedMeaningRecordsTheFailure : Obligations.UnmappedMeaningRecordsTheFailure := fun _ _ => rfl

end Sys2Proof.Machine
end

section
/-! PROOFS for the memory family (spec/20_memory.md): every bus access address by address (R52, R53), reading after writing and
what a write cannot be seen at (R58 to R67), the boot switch (R64), and the memory frame of every instruction. -/

namespace Sys2Proof.Machine

open Sys2Proof.Claims

/-! ### The owners of an address -/

/-- The boot ROM only covers: an address it does not own has the owner it has with the boot ROM unmapped. -/
theorem ownerOf_bootRom_or_false (m : Bool) (a : Word) : ownerOf m a = .bootRom ∨ ownerOf m a = ownerOf false a := by
  by_cases h : m = true ∧ a ≤ 0x00FF
  · exact .inl (if_pos h)
  · exact .inr ((if_neg h).trans (if_neg (fun h => Bool.false_ne_true h.1)).symm)

/-- Above the boot ROM's page the owner does not depend on `boot_mapped` (R60). -/
theorem ownerOf_of_above_bootRom {a : Word} (h : ¬ a ≤ 0x00FF) (m : Bool) : ownerOf m a = ownerOf false a :=
  (if_neg (fun hm => h hm.2)).trans (if_neg (fun hm => h hm.2)).symm

/-- The range of an owner (R51), the boot ROM's only while it is mapped. -/
def Owner.Range (m : Bool) (n : Nat) : Owner → Prop
  | .bootRom => m = true ∧ n ≤ 0x00FF
  | .cart => (m = false ∨ 0x0100 ≤ n) ∧ (n ≤ 0x7FFF ∨ 0xA000 ≤ n ∧ n ≤ 0xBFFF)
  | .vram => 0x8000 ≤ n ∧ n ≤ 0x9FFF
  | .wram => 0xC000 ≤ n ∧ n ≤ 0xDFFF
  | .echo => 0xE000 ≤ n ∧ n ≤ 0xFDFF
  | .oam => 0xFE00 ≤ n ∧ n ≤ 0xFEFF
  | .intFlag => n = 0xFF0F
  | .io => 0xFF00 ≤ n ∧ n ≤ 0xFF7F ∧ n ≠ 0xFF0F
  | .hram => 0xFF80 ≤ n ∧ n ≤ 0xFFFE
  | .intEnable => n = 0xFFFF

/-- `ownerOf_ranges` by the owner, so that a proof can split on it. -/
theorem ownerOf_range (m : Bool) (a : Word) : (ownerOf m a).Range m a.toNat := by
  rcases ownerOf_ranges m a with h | h | h | h | h | h | h | h | h | h <;>
    (rw [h.1]; exact h.2)

/-- The addresses from 0xC000 on whose byte is in the bus-owned storage: all but IF and IE (R39, R65). -/
structure IsFlat (a : Word) : Prop where
  high : 0xC000 ≤ a.toNat
  ne_if : a ≠ 0xFF0F
  ne_ie : a ≠ 0xFFFF

theorem IsFlat.owner {a : Word} (h : IsFlat a) (m : Bool) :
    ownerOf m a = .io ∨ ownerOf m a = .wram ∨ ownerOf m a = .echo ∨ ownerOf m a = .oam ∨ ownerOf m a = .hram := by
  obtain ⟨high, ne_if, ne_ie⟩ := h
  have hr := ownerOf_range m a
  generalize ownerOf m a = o at hr ⊢
  cases o <;> dsimp only [Owner.Range] at hr
  case io | wram | echo | oam | hram => decide
  case intFlag => exact absurd (BitVec.eq_of_toNat_eq hr) ne_if
  case intEnable => exact absurd (BitVec.eq_of_toNat_eq hr) ne_ie
  case bootRom | cart | vram => omega

/-- The five kinds of address a write can go to. -/
theorem address_cases (a : Word) :
    (ownerOf false a = .cart ∧ (a.toNat ≤ 0x7FFF ∨ 0xA000 ≤ a.toNat ∧ a.toNat ≤ 0xBFFF)) ∨
    (ownerOf false a = .vram ∧ 0x8000 ≤ a.toNat ∧ a.toNat ≤ 0x9FFF) ∨
    a = 0xFF0F ∨ a = 0xFFFF ∨ IsFlat a := by
  by_cases hif : a = 0xFF0F
  · exact .inr (.inr (.inl hif))
  by_cases hie : a = 0xFFFF
  · exact .inr (.inr (.inr (.inl hie)))
  rcases ownerOf_ranges false a with h | ⟨h, -, hr⟩ | ⟨h, hr⟩ | h
  · exact nomatch h.2.1
  · exact .inl ⟨h, hr⟩
  · exact .inr (.inl ⟨h, hr⟩)
  · exact .inr (.inr (.inr (.inr ⟨by omega, hif, hie⟩)))

/-! ### Every access, address by address -/

theorem echoAddr_toNat (mode : EchoMode) {a : Word} (h : 0xE000 ≤ a.toNat) :
    (echoAddr mode a).toNat = if mode = .distinct then a.toNat else a.toNat - 0x2000 := by
  cases mode with
  | distinct => exact (if_pos rfl).symm
  | mirrorWram =>
    rw [if_neg (by decide), echoAddr, BitVec.toNat_sub_of_le (BitVec.le_def.mpr (Nat.le_trans (by decide) h))]
    rfl

/-- Settles O15: in each owner's range the list of R52 comes down to that owner's answer. -/
theorem busReadResolvesEveryAddress : Obligations.BusReadResolvesEveryAddress := by
  intro s a
  have hly : (a = 0xFF44) = (a.toNat = 0xFF44) := by simp [← BitVec.toNat_inj]
  have hr := ownerOf_range s.bootMapped a
  unfold State.busRead
  generalize ownerOf s.bootMapped a = o at hr ⊢
  cases o <;> dsimp only [Owner.Range] at hr ⊢
  case bootRom => rw [if_pos hr]
  case cart =>
    obtain ⟨hm | hm, hr | hr⟩ := hr <;> simp (disch := omega) [if_pos, if_neg, hm]
  case echo =>
    rw [echoAddr_toNat _ hr.1, apply_ite (Memory.read s.mem)]
    simp (disch := omega) only [if_pos, if_neg]
  all_goals simp (disch := omega) only [hly, if_pos, if_neg]

/-- Settles O16: in each owner's range the list of R53 comes down to that owner's field. -/
theorem busWriteResolvesEveryAddress : Obligations.BusWriteResolvesEveryAddress := by
  intro s a v
  have hboot : (a = 0xFF50) = (a.toNat = 0xFF50) := by simp [← BitVec.toNat_inj]
  have hif : v.setWidth 5 = v.extractLsb' 0 5 := rfl
  have hr := ownerOf_range false a
  unfold State.busWrite
  generalize ownerOf false a = o at hr ⊢
  cases o <;> dsimp only [Owner.Range, State.memWrite] at hr ⊢
  case bootRom => exact nomatch hr.1
  case cart => rcases hr.2 with hr | hr <;> simp (disch := omega) only [if_pos, if_neg]
  case echo =>
    rw [echoAddr_toNat _ hr.1]
    simp (disch := omega) only [if_pos, if_neg]
  all_goals simp (disch := omega) only [hboot, hif, if_pos, if_neg]

/-! ### Accesses by the kind of address -/

/-- Where the byte of an address in the bus-owned storage is kept: an echo address where R61 says, any other at itself. -/
def State.cellAddr (s : State) (a : Word) : Word :=
  if ownerOf false a = .echo then echoAddr s.params.echoMode a else a

theorem State.busRead_intFlag (s : State) : s.busRead 0xFF0F = s.params.ifUnusedRead ++ s.intFlag := by
  simp [State.busRead, ownerOf]

theorem State.busRead_intEnable (s : State) : s.busRead 0xFFFF = s.ie := by
  simp [State.busRead, ownerOf]

theorem State.busRead_lcdLine (s : State) : s.busRead 0xFF44 = s.params.lySentinel := by
  simp [State.busRead, ownerOf]

theorem State.busRead_of_isFlat (s : State) {a : Word} (h : IsFlat a) (hly : a ≠ 0xFF44) :
    s.busRead a = Memory.read s.mem (s.cellAddr a).toNat := by
  have hm : ownerOf s.bootMapped a = ownerOf false a := ownerOf_of_above_bootRom (by have := h.high; bv_omega) _
  unfold State.busRead State.cellAddr
  rw [hm]
  rcases h.owner false with h | h | h | h | h <;> rw [h]
  · exact if_neg hly
  all_goals rfl

theorem State.busWrite_of_cart (s : State) {a : Word} (v : Byte) (h : ownerOf false a = .cart) :
    s.busWrite a v = { s with cart := s.cart.cartWrite a v } := by
  unfold State.busWrite
  rw [h]

theorem State.busWrite_of_vram (s : State) {a : Word} (v : Byte) (h : ownerOf false a = .vram) :
    s.busWrite a v = { s with vram := s.vram.vramWrite (a - 0x8000) v } := by
  unfold State.busWrite
  rw [h]

theorem State.busWrite_intFlag (s : State) (v : Byte) : s.busWrite 0xFF0F v = { s with intFlag := v.setWidth 5 } := by
  simp [State.busWrite, ownerOf]

theorem State.busWrite_intEnable (s : State) (v : Byte) : s.busWrite 0xFFFF v = { s with ie := v } := by
  simp [State.busWrite, ownerOf]

/-- A write to the bus-owned storage lists the byte, and unmaps the boot ROM at 0xFF50 (R64). -/
theorem State.busWrite_of_isFlat (s : State) {a : Word} (v : Byte) (h : IsFlat a) :
    s.busWrite a v =
      { s.memWrite (s.cellAddr a) v with bootMapped := s.bootMapped && decide (a ≠ 0xFF50) } := by
  rw [← State.busWrite_bootMapped s a v]
  unfold State.busWrite State.cellAddr
  rcases h.owner false with h | h | h | h | h <;> rw [h]
  · dsimp only
    split <;> rfl
  all_goals rfl

/-- Settles O17, kind of address by kind of address. -/
theorem busReadAfterWrite : Obligations.BusReadAfterWrite := by
  intro s a v
  rcases address_cases a with ⟨_, hr⟩ | ⟨h, hr⟩ | rfl | rfl | h
  · exact ⟨fun ha => by omega, fun ha => by omega⟩
  · refine ⟨fun ha => by omega, fun _ => ?_⟩
    rw [State.busWrite_of_vram _ _ h, State.busWrite_of_vram _ _ h, External.vramWrite_repeat]
  · simp only [State.busWrite_intFlag]
    exact ⟨fun _ => State.busRead_intFlag _, fun _ => trivial⟩
  · simp only [State.busWrite_intEnable]
    exact ⟨fun _ => State.busRead_intEnable _, fun _ => trivial⟩
  · refine ⟨fun _ => ?_, fun _ => ?_⟩
    · rw [if_neg h.ne_if]
      by_cases hly : a = 0xFF44
      · rw [hly, State.busRead_lcdLine, State.busWrite_params, if_pos rfl]
      · rw [if_neg hly, State.busRead_of_isFlat _ h hly, State.busWrite_of_isFlat s v h]
        exact Memory.read_write_same _ _ _
    · simp only [State.busWrite_of_isFlat _ _ h, State.cellAddr, State.memWrite, Memory.write_write, Bool.and_assoc,
        Bool.and_self]

/-! ### What a write cannot be seen at -/

/-- A read depends only on what its owner holds: on the byte of its cell, where that is the bus-owned storage. -/
theorem State.busRead_frame {s t : State} {b : Word} (ho : ownerOf t.bootMapped b = ownerOf s.bootMapped b)
    (hp : t.params = s.params) (hr : t.bootRom = s.bootRom) (hc : ownerOf s.bootMapped b = .cart → t.cart = s.cart)
    (hv : ownerOf s.bootMapped b = .vram → t.vram = s.vram) (hf : b = 0xFF0F → t.intFlag = s.intFlag)
    (hi : b = 0xFFFF → t.ie = s.ie)
    (hm : Memory.read t.mem (s.cellAddr b).toNat = Memory.read s.mem (s.cellAddr b).toNat) :
    t.busRead b = s.busRead b := by
  have hcell : t.cellAddr b = s.cellAddr b := by rw [State.cellAddr, hp]; rfl
  rcases ownerOf_bootRom_or_false s.bootMapped b with hb | hb
  · unfold State.busRead
    rw [ho, hb, hr]
  rcases address_cases b with ⟨h, _⟩ | ⟨h, _⟩ | rfl | rfl | h
  · unfold State.busRead
    rw [ho, hb, h, hc (hb.trans h)]
  · unfold State.busRead
    rw [ho, hb, h, hv (hb.trans h)]
  · rw [State.busRead_intFlag, State.busRead_intFlag, hp, hf rfl]
  · rw [State.busRead_intEnable, State.busRead_intEnable, hi rfl]
  · by_cases hly : b = 0xFF44
    · rw [hly, State.busRead_lcdLine, State.busRead_lcdLine, hp]
    · rw [State.busRead_of_isFlat _ h hly, State.busRead_of_isFlat _ h hly, hcell, hm]

/-- An address that a store cannot be seen at, clause by clause of `State.seenBy`. -/
structure State.Unseen (s : State) (w b : Word) : Prop where
  ne   : b ≠ w
  echo : s.params.echoMode = .mirrorWram → ownerOf false b = .echo → b ≠ w + 0x2000
  wram : s.params.echoMode = .mirrorWram → ownerOf false w = .echo → w ≠ b + 0x2000
  cart : ownerOf false w = .cart → ownerOf s.bootMapped b ≠ .cart
  vram : ownerOf false w = .vram → ownerOf s.bootMapped b ≠ .vram
  boot : w = 0xFF50 → ¬ b ≤ 0x00FF

theorem State.unseen {s : State} {w b : Word} (h : ¬ s.seenBy w b) : s.Unseen w b := by
  simp only [State.seenBy, not_or, not_and] at h
  obtain ⟨hne, hmirror, hcart, hvram, hboot⟩ := h
  exact ⟨hne, fun hm => (hmirror hm).1, fun hm => (hmirror hm).2, hcart, hvram, hboot⟩

/-- An address that a write cannot be seen at keeps its owner (R64). -/
theorem State.ownerOf_busWrite {s : State} {w b : Word} (v : Byte) (h : ¬ s.seenBy w b) :
    ownerOf (s.busWrite w v).bootMapped b = ownerOf s.bootMapped b := by
  rw [State.busWrite_bootMapped]
  by_cases hw : w = 0xFF50
  · have hb := (State.unseen h).boot hw
    rw [ownerOf_of_above_bootRom hb, ownerOf_of_above_bootRom hb s.bootMapped]
  · rw [decide_eq_true hw, Bool.and_true]

/-- Two addresses share a cell only if they are the same or one is the other's echo (R61). -/
theorem State.cellAddr_ne {s : State} {w b : Word} (h : ¬ s.seenBy w b) : s.cellAddr b ≠ s.cellAddr w := by
  obtain ⟨hne, hecho, hwram, -, -, -⟩ := State.unseen h
  unfold State.cellAddr
  cases hmode : s.params.echoMode with
  | distinct => simpa [echoAddr] using hne
  | mirrorWram =>
    dsimp only [echoAddr]
    split <;> split
    · bv_omega
    · have := hecho hmode ‹_›
      bv_omega
    · have := hwram hmode ‹_›
      bv_omega
    · exact hne

/-- A write leaves the cell of an address it cannot be seen at. -/
theorem State.read_memWrite_of_not_seenBy {s : State} {w b : Word} (v : Byte) (h : ¬ s.seenBy w b) :
    Memory.read (s.memWrite (s.cellAddr w) v).mem (s.cellAddr b).toNat = Memory.read s.mem (s.cellAddr b).toNat :=
  Memory.read_write_ne _ _ (fun e => State.cellAddr_ne h (BitVec.eq_of_toNat_eq e))

/-- Settles O18: the one field a write changes is not what an unseen address reads. -/
theorem busWriteLeavesOtherAddresses : Obligations.BusWriteLeavesOtherAddresses := by
  intro s w b v h
  have ho := State.ownerOf_busWrite v h
  have hu := State.unseen h
  rcases address_cases w with ⟨hw, _⟩ | ⟨hw, _⟩ | rfl | rfl | hw
  · rw [State.busWrite_of_cart s v hw] at ho ⊢
    exact State.busRead_frame ho rfl rfl (fun hb => absurd hb (hu.cart hw)) (fun _ => rfl) (fun _ => rfl)
      (fun _ => rfl) rfl
  · rw [State.busWrite_of_vram s v hw] at ho ⊢
    exact State.busRead_frame ho rfl rfl (fun _ => rfl) (fun hb => absurd hb (hu.vram hw))
      (fun _ => rfl) (fun _ => rfl) rfl
  · rw [State.busWrite_intFlag] at ho ⊢
    exact State.busRead_frame ho rfl rfl (fun _ => rfl) (fun _ => rfl) (fun hb => absurd hb hu.ne) (fun _ => rfl) rfl
  · rw [State.busWrite_intEnable] at ho ⊢
    exact State.busRead_frame ho rfl rfl (fun _ => rfl) (fun _ => rfl) (fun _ => rfl) (fun hb => absurd hb hu.ne) rfl
  · rw [State.busWrite_of_isFlat s v hw] at ho ⊢
    exact State.busRead_frame ho rfl rfl (fun _ => rfl) (fun _ => rfl) (fun _ => rfl) (fun _ => rfl)
      (State.read_memWrite_of_not_seenBy v h)

/-! ### The boot switch -/

theorem isFlat_bootSwitch : IsFlat 0xFF50 := ⟨by decide, by decide, by decide⟩

/-- With the boot ROM unmapped its page is the cartridge's (R60, R64). -/
theorem State.busRead_bootPage_of_unmapped {s : State} (hs : s.bootMapped = false) {a : Word} (ha : a.toNat ≤ 0x00FF) :
    s.busRead a = s.cart.cartRead a := by
  rw [busReadResolvesEveryAddress s a, hs, if_neg (fun h => Bool.false_ne_true h.1), if_pos (Nat.le_trans ha (by decide))]

/-- Settles O19: `boot_mapped` after a write is `State.busWrite_bootMapped`, and 0xFF50 reads as any other flat address. -/
theorem bootSwitchIsOneWay : Obligations.BootSwitchIsOneWay := by
  intro s a v
  refine ⟨⟨?unmaps, ?stores⟩, fun ha => ?_, fun hs => ?_,
    fun hs ha => State.busRead_bootPage_of_unmapped hs ha⟩
  case unmaps => rw [State.busWrite_bootMapped, decide_eq_false (fun h => h rfl), Bool.and_false]
  case stores => exact (busReadAfterWrite s 0xFF50 v).1 isFlat_bootSwitch.high
  · rw [State.busWrite_bootMapped, decide_eq_true ha, Bool.and_true]
  · rw [State.busWrite_bootMapped, hs, Bool.false_and]

/-! ### The stores of an instruction -/

/-- The state with everything that the bus neither reads nor writes put back to its reset value. -/
def State.bus (s : State) : State :=
  { State.reset with
    mem := s.mem, bootRom := s.bootRom, cart := s.cart, vram := s.vram, ie := s.ie, intFlag := s.intFlag
    bootMapped := s.bootMapped, params := s.params }

theorem State.busRead_of_bus_eq {s t : State} (h : t.bus = s.bus) (b : Word) : t.busRead b = s.busRead b := by
  have hb : ∀ u : State, u.busRead b = u.bus.busRead b := fun _ => rfl
  rw [hb t, h, ← hb]

/-- What the bus holds in `t` is what it holds after one store to each of these addresses, in order, from `s`. -/
inductive State.StoresTo : State → List Word → State → Prop
  | nil {s t : State} (h : t.bus = s.bus) : StoresTo s [] t
  | cons {s t : State} {w : Word} {ws : List Word} (v : Byte) (h : StoresTo (s.busWrite w v) ws t) : StoresTo s (w :: ws) t

namespace State.StoresTo

variable {s t u : State} {ws : List Word}

theorem congr (h : s.StoresTo ws t) (hu : u.bus = t.bus) : s.StoresTo ws u := by
  induction h with
  | nil h => exact .nil (hu.trans h)
  | cons v _ ih => exact .cons v (ih hu)

theorem ite {p : Prop} [Decidable p] {ws' : List Word} (ht : s.StoresTo ws t) (hu : s.StoresTo ws' u) :
    s.StoresTo (if p then ws else ws') (if p then t else u) := by
  split
  · exact ht
  · exact hu

theorem one {w : Word} (v : Byte) (h : t.bus = (s.busWrite w v).bus) : s.StoresTo [w] t := .cons v (.nil h)

theorem push16 (s : State) (v : Word) : s.StoresTo [s.sp - 1, s.sp - 2] (s.push16 v) := by
  rw [State.push16_eq]
  exact .cons (hiByte v) (.one (loByte v) rfl)

theorem writeR8 (s : State) (r : R8) (v : Byte) : s.StoresTo (memOf s r) (s.writeR8 r v) := by
  cases r with
  | hlInd => exact .one v rfl
  | _ => exact .nil rfl

/-- Reads at addresses that none of the stores can be seen at are as before. -/
theorem busRead (h : s.StoresTo ws t) {b : Word} (hb : ∀ w ∈ ws, ¬ s.seenBy w b) : t.busRead b = s.busRead b := by
  induction h with
  | nil h => exact State.busRead_of_bus_eq h b
  | @cons s t w ws v _ ih =>
    have hw : ¬ s.seenBy w b := hb w List.mem_cons_self
    have hrest : ∀ x ∈ ws, ¬ (s.busWrite w v).seenBy x b := by
      intro x hx
      unfold State.seenBy
      rw [State.busWrite_params, State.ownerOf_busWrite v hw]
      exact hb x (List.mem_cons_of_mem w hx)
    exact (ih hrest).trans (busWriteLeavesOtherAddresses s w b v hw)

end State.StoresTo

/-- `stores` by descriptor, on the instruction's immediates. -/
def storesOf (d : Descriptor) (n : Byte) (a : Word) (s : State) : List Word :=
  match d with
  | .ldA16A => [a]
  | .ldA16Sp => [a, a + 1]
  | .ldhA8A => [highPage n]
  | .ldhCA => [highPage s.regs.c]
  | .ldR8R8 r _ | .ldR8N8 r | .incR8 r | .decR8 r | .rot _ r | .res _ r | .set _ r => memOf s r
  | .ldR16memA m => [s.memAddr m]
  | .callA16 | .rst _ | .push _ => [s.sp - 1, s.sp - 2]
  | .callCcA16 cc => if s.cond cc then [s.sp - 1, s.sp - 2] else []
  | _ => []

theorem stores_of_descriptor (i : Instr) (d : Descriptor) (s : State) (h : i.descriptor = some d) :
    stores i s = storesOf d (byteOf i) (wordOf i) s := by
  cases i
  case prefixCb op2 =>
    have hd : (decodeFields op2 true).descriptor? = some d := h
    unfold stores
    dsimp only
    rw [h]
    rcases decodeFields_prefixed op2 with ⟨_, _, e⟩ | ⟨_, _, e⟩ | ⟨_, _, e⟩ | ⟨_, _, e⟩ <;>
      (rw [e] at hd; cases hd; rfl)
  case unmapped op => exact nomatch h
  case ld_ma16_A a =>
    cases h
    exact congrArg (fun a => [a]) (joinBytes_hi_lo a).symm
  case ld_ma16_SP a =>
    cases h
    exact congrArg (fun a => [a, a + 1]) (joinBytes_hi_lo a).symm
  all_goals
    cases h
    rfl

/-- Every descriptor's operation stores to the addresses of its rule and leaves the bus alone otherwise. -/
theorem meaningOf_storesTo (d : Descriptor) (n : Byte) (a : Word) (s : State) :
    s.StoresTo (storesOf d n a s) (meaningOf d n a s) := by
  cases d with
  | ldR8R8 r _ | ldR8N8 r | res _ r | set _ r => exact .writeR8 s r _
  | incR8 r | decR8 r | rot _ r => exact (State.StoresTo.writeR8 s r _).congr rfl
  | ldR16memA m => cases m <;> exact .one (s.reg .a) rfl
  | ldA16A | ldhA8A | ldhCA => exact .one (s.reg .a) rfl
  | ldA16Sp => exact .cons (loByte s.sp) (.one (hiByte s.sp) rfl)
  | callA16 | rst _ | push _ => exact (State.StoresTo.push16 s _).congr rfl
  | callCcA16 cc => exact .ite ((State.StoresTo.push16 s _).congr rfl) (.nil rfl)
  | halt | ei | jpCcA16 _ | jrCcE8 _ | retCc _ => exact iteInduction (fun _ => .nil rfl) (fun _ => .nil rfl)
  | ldR16N16 r | incR16 r | decR16 r => cases r <;> exact .nil rfl
  | ldAR16mem m => cases m <;> exact .nil rfl
  | aluR8 op _ | aluN8 op => cases op <;> exact .nil rfl
  | _ => exact .nil rfl

theorem exec_storesTo {i : Instr} {s t : State} (h : exec i s = .next t) : s.StoresTo (stores i s) t := by
  rcases exec_cases i s with ⟨d, hd, e⟩ | ⟨op, rfl, e⟩ <;> (rw [e] at h; cases h)
  · rw [stores_of_descriptor i d s hd]
    exact meaningOf_storesTo d _ _ s
  · exact .nil rfl

/-- Settles O53: the bus holds what the instruction's stores leave in it. -/
theorem memoryFrame : Obligations.MemoryFrame := by
  intro i s t h b hb
  exact (exec_storesTo h).busRead hb

end Sys2Proof.Machine
end

section
/-! PROOFS for the encoding family (spec/30_encoding.md): decoding and encoding are inverse to each other (R93, R95, R101), the
grids agree with the bit fields (R91, R96, R98), and the step runs the instruction that its bytes decode to (R100, R304). -/

namespace Sys2Proof

open Sys2Proof.Machine

/-! ### What the decoder answers -/

/-- Everything a decoding can answer (R100): an unprefixed instruction past its own bytes, the prefixed instruction of the
byte behind the escape, or an unmapped byte. -/
theorem decode_cases {op : Byte} {bs rest : List Byte} {i : Instr} (h : decode (op :: bs) = .ok (i, rest)) :
    (op ≠ 0xCB ∧ i.descriptor.isSome = true ∧ ∃ imm, encode i = op :: imm ∧ bs = imm ++ rest) ∨
    (op = 0xCB ∧ ∃ op2, i = prefixedOf op2 ∧ bs = op2 :: rest) ∨
    (op ∈ unmappedBytes ∧ i = .unmapped op ∧ bs = rest) := by
  by_cases hop : op = 0xCB
  · subst hop
    cases bs with
    | nil => exact nomatch h
    | cons op2 bs =>
      cases h
      exact .inr (.inl ⟨rfl, op2, rfl, rfl⟩)
  have hg := entryOf_good op
  unfold decode at h
  dsimp only at h
  generalize entryOf op = e at h hg
  cases e with
  | plain j =>
    cases h
    exact .inl ⟨hop, hg.1, [], hg.2, rfl⟩
  | imm8 g =>
    cases bs with
    | nil => exact nomatch h
    | cons n bs =>
      cases h
      exact .inl ⟨hop, (hg n).1, [n], (hg n).2, rfl⟩
  | imm16 g =>
    rcases bs with _ | ⟨lo, _ | ⟨hi, bs⟩⟩
    · exact nomatch h
    · exact nomatch h
    · cases h
      have hw := hg (joinBytes hi lo)
      rw [hiByte_joinBytes, loByte_joinBytes] at hw
      exact .inl ⟨hop, hw.1, [lo, hi], hw.2, rfl⟩
  | escape => exact absurd hg hop
  | unmapped =>
    cases h
    exact .inr (.inr ⟨hg, rfl, rfl⟩)

/-- The two bytes behind an opcode with a word immediate are put together again, low byte first (R95). -/
theorem decode_of_imm16 {op : Byte} {g : Word → Instr} (he : entryOf op = .imm16 g) (a : Word) (rest : List Byte) :
    decode (op :: loByte a :: hiByte a :: rest) = .ok (g a, rest) := by
  simp only [decode, he, joinBytes_hi_lo]

/-- The grid has no mapping at the bytes of R99. -/
theorem entryOf_of_mem_unmappedBytes : ∀ op ∈ unmappedBytes, entryOf op = .unmapped := by
  simp only [unmappedBytes, List.forall_mem_cons]
  exact ⟨rfl, rfl, rfl, rfl, rfl, rfl, rfl, rfl, rfl, rfl, rfl, fun _ h => nomatch h⟩

theorem decode_of_mem_unmappedBytes {op : Byte} (h : op ∈ unmappedBytes) (rest : List Byte) :
    decode (op :: rest) = .ok (.unmapped op, rest) := by
  simp only [decode, entryOf_of_mem_unmappedBytes op h]

theorem wellFormed_unmapped {op : Byte} : (Instr.unmapped op).wellFormed = true ↔ op ∈ unmappedBytes :=
  List.contains_iff_mem

/-- A descriptor rules out an unmapped byte, and a first byte that is not the escape rules out the unresolved escape. -/
theorem wellFormed_of_encode {i : Instr} {op : Byte} {imm : List Byte} (hd : i.descriptor.isSome = true)
    (henc : encode i = op :: imm) (hop : op ≠ 0xCB) : i.wellFormed = true := by
  cases i
  case unmapped => exact nomatch hd
  case prefixCb =>
    cases henc
    exact absurd rfl hop
  all_goals rfl

/-! ### The round trips -/

/-- Settles O23, constructor by constructor: a word immediate is put together again from its two bytes, an unmapped byte is
one of R99, the unresolved escape is ill-formed, and every other instruction stands in a grid at its own bytes. -/
theorem decodeOfEncode : Obligations.DecodeOfEncode := by
  intro i rest hwf
  cases i
  case prefixCb => exact nomatch hwf
  case unmapped op => exact decode_of_mem_unmappedBytes (wellFormed_unmapped.mp hwf) rest
  case ld_BC_n16 | ld_DE_n16 | ld_HL_n16 | ld_SP_n16 | ld_ma16_SP | ld_ma16_A | ld_A_ma16 | jp_a16 | jp_NZ_a16 | jp_Z_a16 |
      jp_NC_a16 | jp_C_a16 | call_a16 | call_NZ_a16 | call_Z_a16 | call_NC_a16 | call_C_a16 =>
    exact decode_of_imm16 rfl _ rest
  all_goals rfl

/-- Settles O24, case by case of what a decoding can answer. -/
theorem encodeOfDecode : Obligations.EncodeOfDecode := by
  intro bs rest i h
  cases bs with
  | nil => exact nomatch h
  | cons op bs =>
    rcases decode_cases h with ⟨hop, hd, imm, henc, rfl⟩ | ⟨rfl, op2, rfl, rfl⟩ | ⟨hop, rfl, rfl⟩
    · exact ⟨wellFormed_of_encode hd henc hop, by rw [henc]; rfl⟩
    · obtain ⟨henc, -, hwf⟩ := prefixedOf_good op2
      exact ⟨hwf, by rw [henc]; rfl⟩
    · exact ⟨wellFormed_unmapped.mpr hop, rfl⟩

/-- Settles O26: each word stands in a grid at its own bytes. -/
theorem sampleWordsDecode : Obligations.SampleWordsDecode :=
  ⟨rfl, rfl, rfl, rfl, rfl, rfl, rfl, rfl, rfl, rfl, rfl, rfl⟩

/-! ### The grids and the bit fields -/

/-- The descriptor that the fields of an instruction's bytes name (R96): those of the first byte, or, behind the escape, those
of the second. -/
def fieldsDescriptor : List Byte → Option Descriptor
  | [] => none
  | op :: bs =>
    match decodeFields op false, bs with
    | .instr d, _ => some d
    | .escape, op2 :: _ => (decodeFields op2 true).descriptor?
    | .escape, [] => none
    | .unmapped _, _ => none

theorem decodeFields_of_mem_unmappedBytes : ∀ op ∈ unmappedBytes, decodeFields op false = .unmapped op := by
  decide

theorem eq_CB_of_decodeFields_escape : ∀ op : Byte, decodeFields op false = .escape → op = 0xCB := by
  decide

/-- The table's descriptor of an instruction is the one that the fields of its bytes name, whatever follows them. -/
theorem descriptor_eq_fieldsDescriptor (i : Instr) (rest : List Byte) (hwf : i.wellFormed = true) :
    i.descriptor = fieldsDescriptor (encode i ++ rest) := by
  cases i
  case prefixCb => exact nomatch hwf
  case unmapped op =>
    have hf := decodeFields_of_mem_unmappedBytes op (wellFormed_unmapped.mp hwf)
    show none = fieldsDescriptor (op :: rest)
    simp only [fieldsDescriptor, hf]
  all_goals rfl

/-- No prefixed code fails (R99): the grid has at every byte an instruction with the descriptor of the byte's fields. -/
theorem exists_descriptor_prefixedOf (op2 : Byte) :
    ∃ d, decodeFields op2 true = .instr d ∧ (prefixedOf op2).descriptor = some d := by
  rw [(prefixedOf_good op2).2.1]
  rcases decodeFields_prefixed op2 with ⟨_, _, e⟩ | ⟨_, _, e⟩ | ⟨_, _, e⟩ | ⟨_, _, e⟩ <;> exact ⟨_, e, congrArg _ e⟩

/-- Settles O25: a decoding consumes the encoding of its instruction, and on those bytes the fields name its descriptor. -/
theorem gridsAgreeWithFields : Obligations.GridsAgreeWithFields := by
  intro op rest rest' i h
  obtain ⟨hwf, hbytes⟩ := encodeOfDecode _ _ _ h
  have hd : i.descriptor = fieldsDescriptor (op :: rest) := hbytes ▸ descriptor_eq_fieldsDescriptor i rest' hwf
  rcases decode_cases h with ⟨hop, hsome, -⟩ | ⟨rfl, op2, rfl, rfl⟩ | ⟨hop, rfl, rfl⟩
  · cases hf : decodeFields op false with
    | instr d => simpa only [fieldsDescriptor, hf] using hd
    | escape => exact absurd (eq_CB_of_decodeFields_escape op hf) hop
    | unmapped o =>
      simp only [fieldsDescriptor, hf] at hd
      rw [hd] at hsome
      exact nomatch hsome
  · obtain ⟨d, hf, hd2⟩ := exists_descriptor_prefixedOf op2
    exact ⟨rfl, op2, d, rfl, hf, hd2⟩
  · rw [decodeFields_of_mem_unmappedBytes op hop]
    exact ⟨rfl, rfl, hop⟩

end Sys2Proof

namespace Sys2Proof.Machine

open Sys2Proof.Claims

/-! ### The fetch -/

/-- A fetch answers the instruction that the fetched bytes decode to, under the HALT bug too (R100, R304). -/
theorem decode_fetchedBytes (s : State) : ∃ rest, decode (fetchedBytes s) = .ok (s.fetchInstr.1, rest) := by
  have hop : { s with halted := false }.fetchOpcode.1 = s.busRead s.pc := rfl
  unfold fetchedBytes decode State.fetchInstr
  dsimp only
  rw [hop]
  unfold State.fetchOpcode
  generalize entryOf (s.busRead s.pc) = e
  cases e with
  | plain i => exact ⟨_, rfl⟩
  | unmapped => exact ⟨_, rfl⟩
  | imm8 g | imm16 g | escape => cases s.haltBug <;> exact ⟨_, rfl⟩

theorem State.fetchInstr_fst {s : State} {i : Instr} {rest : List Byte} (h : decode (fetchedBytes s) = .ok (i, rest)) :
    s.fetchInstr.1 = i := by
  obtain ⟨rest', h'⟩ := decode_fetchedBytes s
  rw [h'] at h
  cases h
  rfl

/-- The fetch of an instruction with a descriptor leaves the state past its bytes. -/
theorem State.fetchInstr_of_decode {s : State} {i : Instr} {d : Descriptor} {rest : List Byte}
    (h : decode (fetchedBytes s) = .ok (i, rest)) (hd : i.descriptor = some d) : s.fetchInstr = (i, past s i) := by
  have hi := State.fetchInstr_fst h
  rcases s.fetchInstr_cases with ⟨_, e⟩ | ⟨_, _, _, _, e⟩ <;> (rw [e] at hi; cases hi)
  · exact nomatch hd
  · exact e

/-- The fetch of an unmapped byte leaves the state untouched (R310). -/
theorem State.fetchInstr_of_mem_unmappedBytes {s : State} (h : s.busRead s.pc ∈ unmappedBytes) :
    s.fetchInstr = (.unmapped (s.busRead s.pc), s) := by
  have hi := State.fetchInstr_fst (s := s) (decode_of_mem_unmappedBytes h _)
  rcases s.fetchInstr_cases with ⟨_, e⟩ | ⟨_, _, hd, _, e⟩
  · exact e
  · rw [e] at hi
    cases hi
    exact nomatch hd

/-! ### The step -/

/-- Where the next step runs an instruction, no terminal record, STOP, dispatch or idling comes before it (R300). -/
theorem step_of_runsInstr {s : State} (h : RunsInstr s) : step s = runInstr s := by
  obtain ⟨hfault, hrefused, hstopped, hdispatch, hawake⟩ := h
  have hrun : runStep s = runInstr s := by
    unfold runStep
    split
    next src hime hsrc =>
      rcases hdispatch with hime' | hpend
      · exact absurd (hime'.symm.trans hime) Bool.false_ne_true
      · rw [(lowestSource_none _).mpr hpend] at hsrc
        exact nomatch hsrc
    next hnone =>
      have hpend := (lowestSource_none _).mp hnone
      exact if_neg (by simpa [hpend] using hawake)
    next => rfl
  simp [step, stepOnce, hfault, hrefused, hstopped, hrun]

theorem isDi_eq_true {i : Instr} : isDi i = true ↔ i = .di := by
  unfold isDi
  split
  · exact iff_of_true rfl rfl
  · exact iff_of_false Bool.false_ne_true ‹_›

/-- The end of an instruction (R215): a pending EI takes effect, but not after DI. -/
theorem State.endInstr_isDi (t : State) (w : Bool) (i : Instr) :
    t.endInstr w (isDi i) =
      { t with
        ime := if w = true ∧ i ≠ .di then true else t.ime
        eiPending := if w = true ∧ i ≠ .di then false else t.eiPending } := by
  have hw : (w && !isDi i) = true ↔ w = true ∧ i ≠ .di := by
    rw [Bool.and_eq_true, Bool.not_eq_true', ← Bool.not_eq_true, isDi_eq_true]
  unfold State.endInstr
  by_cases h : w = true ∧ i ≠ .di
  · rw [if_pos (hw.mpr h), if_pos h, if_pos h]
  · rw [if_neg (mt hw.mp h), if_neg h, if_neg h]

/-- Settles O6: the step is the fetch, the meaning and the end of the instruction, each said by its lemma. -/
theorem stepRunsTheDecodedInstruction : Obligations.StepRunsTheDecodedInstruction := by
  intro s i d rest hs hdec _ hd
  simp only [step_of_runsInstr hs, runInstr, State.fetchInstr_of_decode hdec hd, exec_of_descriptor i d _ hd,
    State.finish_of_descriptor i d _ _ hd, State.endInstr_isDi]

/-- Settles O7: the fetch answers the byte and leaves the state untouched; the prefixed grid has no gap. -/
theorem unmappedOpcodeStopsTheCore : Obligations.UnmappedOpcodeStopsTheCore := by
  refine ⟨fun s hs hop => ?_, fun op2 => ?_⟩
  · rw [step_of_runsInstr hs, runInstr_unmapped s (State.fetchInstr_of_mem_unmappedBytes hop)]
  · obtain ⟨d, -, hd⟩ := exists_descriptor_prefixedOf op2
    exact ⟨d, hd⟩

end Sys2Proof.Machine
end

section
/-! PROOFS for the 8-bit arithmetic family (spec/40_alu8.md): the bytes of the instructions with an operand selector (R93, R94),
the results and flags of `alu` (R120 to R128), and INC and DEC (R129, R130). -/

namespace Sys2Proof.Machine

open Sys2Proof.Claims

/-! ### The bytes of an instruction by its selectors -/

/-- The bytes of the instructions that R94 encodes by an 8-bit or 16-bit operand selector, on the byte immediate `n`; none for
the other descriptors. -/
def selectorBytes (n : Byte) : Descriptor → Option (List Byte)
  | .ldR8R8 dst src => some [opByte (0x40 + 8 * r8Code dst + r8Code src)]
  | .aluR8 op r => some [opByte (0x80 + 8 * aluCode op + r8Code r)]
  | .aluN8 op => some [opByte (0xC6 + 8 * aluCode op), n]
  | .incR8 r => some [opByte (0x04 + 8 * r8Code r)]
  | .decR8 r => some [opByte (0x05 + 8 * r8Code r)]
  | .incR16 r => some [opByte (0x03 + 16 * r16Code r)]
  | .addHlR16 r => some [opByte (0x09 + 16 * r16Code r)]
  | .decR16 r => some [opByte (0x0B + 16 * r16Code r)]
  | .rot op r => some [0xCB, opByte (8 * rotCode op + r8Code r)]
  | .bit k r => some [0xCB, opByte (0x40 + 8 * k.val + r8Code r)]
  | .res k r => some [0xCB, opByte (0x80 + 8 * k.val + r8Code r)]
  | .set k r => some [0xCB, opByte (0xC0 + 8 * k.val + r8Code r)]
  | _ => none

/-- The fields of a prefixed byte give the byte back. -/
theorem selectorBytes_prefixed :
    ∀ op2 : Byte, (decodeFields op2 true).descriptor?.bind (selectorBytes op2) = some [0xCB, op2] := by
  decide

/-- An instruction with an operand selector is encoded in the bytes its descriptor names. -/
theorem encode_of_selectorBytes {i : Instr} {d : Descriptor} {bs : List Byte} (h : i.descriptor = some d)
    (hbs : selectorBytes (byteOf i) d = some bs) : encode i = bs := by
  cases i
  case prefixCb op2 =>
    have hd : (decodeFields op2 true).descriptor? = some d := h
    have hfields := selectorBytes_prefixed op2
    rw [hd] at hfields
    exact Option.some.inj (hfields.symm.trans hbs)
  all_goals cases h
  all_goals cases hbs
  all_goals rfl

/-! ### The operand of an `alu` instruction -/

theorem aluBytes_of_aluOperand {op : AluOp} {i : Instr} {s : State} {v : Byte} (h : AluOperand op i s v) :
    AluBytes op i s v := by
  rcases h with ⟨r, hd, hv⟩ | ⟨hd, b, hb⟩
  · exact .inl ⟨r, encode_of_selectorBytes hd rfl, hv⟩
  · have hv : byteOf i = v := congrArg (List.getD · 1 0) hb
    exact .inr (encode_of_selectorBytes hd (by rw [hv]; rfl))

theorem exec_of_aluOperand {op : AluOp} {i : Instr} {s : State} {v : Byte} (h : AluOperand op i s v) :
    exec i s = .next (aluApply op v s) := by
  rcases h with ⟨r, hd, rfl⟩ | ⟨hd, b, hb⟩
  · exact exec_of_descriptor i _ s hd
  · have hv : byteOf i = v := congrArg (List.getD · 1 0) hb
    exact hv ▸ exec_of_descriptor i _ s hd

/-- An `alu` operation writes A and the flags, unless it is CP. -/
theorem aluApply_eq_withAF {op : AluOp} (hop : op ≠ .cp) {s : State} {v w : Byte} {z n h c : Bool}
    (hr : aluResult op s.regs.a v s.flagC = ⟨w, z, n, h, c⟩) : aluApply op v s = withAF s w z n h c := by
  have ha : s.reg .a = s.regs.a := rfl
  unfold aluApply
  rw [ha, hr, State.setFlags_eq]
  cases op with
  | cp => exact absurd rfl hop
  | _ => rfl

/-- CP writes the flags alone. -/
theorem aluApply_cp_eq_withF {s : State} {v w : Byte} {z n h c : Bool}
    (hr : subResult s.regs.a v false = ⟨w, z, n, h, c⟩) : aluApply .cp v s = withF s z n h c := by
  have ha : aluResult .cp (s.reg .a) v s.flagC = subResult s.regs.a v false := rfl
  unfold aluApply
  rw [ha, hr]
  exact State.setFlags_eq s z n h c

/-! ### The results, on values -/

theorem ofNat_eq_zero_iff (n : Nat) : BitVec.ofNat 8 n = 0 ↔ n % 256 = 0 := by
  rw [← BitVec.toNat_inj, BitVec.toNat_ofNat]
  rfl

theorem ofInt_eq_zero_iff (d : Int) : BitVec.ofInt 8 d = 0 ↔ d % 256 = 0 := by
  rw [← BitVec.toNat_inj, BitVec.toNat_ofInt]
  change (d % 256).toNat = 0 ↔ d % 256 = 0
  omega

theorem ofInt_sub (x y : Int) : BitVec.ofInt 8 (x - y) = BitVec.ofInt 8 x - BitVec.ofInt 8 y := by
  rw [Int.sub_eq_add_neg, BitVec.ofInt_add, BitVec.ofInt_neg, ← BitVec.sub_eq_add_neg]

theorem byte_sub_eq_zero_iff (a v : Byte) : a - v = 0 ↔ a = v := by bv_omega

theorem addResult_eq (a v : Byte) (cin : Bool) :
    let k := if cin then 1 else 0
    addResult a v cin = ⟨a + v + BitVec.ofNat 8 k, decide (a + v + BitVec.ofNat 8 k = 0), false,
      decide (a.toNat % 16 + v.toNat % 16 + k > 15), decide (a.toNat + v.toNat + k > 255)⟩ := by
  intro k
  have hk : cin.toNat = k := Bool.cond_eq_ite cin 1 0
  have hsum : a + v + BitVec.ofNat 8 k = BitVec.ofNat 8 (a.toNat + v.toNat + k) := by
    rw [BitVec.ofNat_add, BitVec.ofNat_add, BitVec.ofNat_toNat, BitVec.ofNat_toNat, BitVec.setWidth_eq, BitVec.setWidth_eq]
  simp only [addResult, hk, hsum, ofNat_eq_zero_iff]

theorem subResult_eq (a v : Byte) (cin : Bool) :
    let k := if cin then 1 else 0
    subResult a v cin = ⟨a - v - BitVec.ofNat 8 k, decide (a - v - BitVec.ofNat 8 k = 0), true,
      decide (a.toNat % 16 < v.toNat % 16 + k), decide (a.toNat < v.toNat + k)⟩ := by
  intro k
  have hk : cin.toNat = k := Bool.cond_eq_ite cin 1 0
  have hdiff : a - v - BitVec.ofNat 8 k = BitVec.ofInt 8 ((a.toNat : Int) - v.toNat - k) := by
    rw [ofInt_sub, ofInt_sub, BitVec.ofInt_natCast, BitVec.ofInt_natCast, BitVec.ofInt_natCast, BitVec.ofNat_toNat,
      BitVec.ofNat_toNat, BitVec.setWidth_eq, BitVec.setWidth_eq]
  have hhalf : ((a.toNat % 16 : Nat) : Int) - (v.toNat % 16 : Nat) - k < 0 ↔ a.toNat % 16 < v.toNat % 16 + k := by omega
  have hborrow : (a.toNat : Int) - v.toNat - k < 0 ↔ a.toNat < v.toNat + k := by omega
  simp only [subResult, hk, hdiff, hhalf, hborrow, ofInt_eq_zero_iff]

/-- Without a carry in (R121). -/
theorem addResult_false (a v : Byte) :
    addResult a v false = ⟨a + v, decide (a + v = 0), false, decide (a.toNat % 16 + v.toNat % 16 > 15),
      decide (a.toNat + v.toNat > 255)⟩ := by
  simpa using addResult_eq a v false

/-- Without a borrow in (R123, R128): the difference is zero where the operands are equal. -/
theorem subResult_false (a v : Byte) :
    subResult a v false = ⟨a - v, decide (a = v), true, decide (a.toNat % 16 < v.toNat % 16),
      decide (a.toNat < v.toNat)⟩ := by
  have hz : a - v = 0#8 ↔ a = v := byte_sub_eq_zero_iff a v
  simpa [hz] using subResult_eq a v false

theorem and_0F_toNat (v : Byte) : (v &&& 0x0F).toNat = v.toNat % 16 := Nat.and_two_pow_sub_one_eq_mod v.toNat 4

theorem incResult_eq (v : Byte) (cf : Bool) :
    incResult v cf = ⟨v + 1, decide (v = 0xFF), false, decide (v &&& 0x0F = 0x0F), cf⟩ := by
  have hz : v + 1 = 0 ↔ v = 0xFF := by bv_omega
  have hh : v.toNat % 16 = 15 ↔ v &&& 0x0F = 0x0F := by rw [← BitVec.toNat_inj, and_0F_toNat]; rfl
  simp only [incResult, hz, hh]

theorem decResult_eq (v : Byte) (cf : Bool) :
    decResult v cf = ⟨v - 1, decide (v = 0x01), true, decide (v &&& 0x0F = 0), cf⟩ := by
  have hz : v - 1 = 0 ↔ v = 0x01 := byte_sub_eq_zero_iff v 1
  have hh : v.toNat % 16 = 0 ↔ v &&& 0x0F = 0 := by rw [← BitVec.toNat_inj, and_0F_toNat]; rfl
  simp only [decResult, hz, hh]

/-! ### What the instructions do -/

/-- What an `alu` instruction other than CP does, from its result on values. -/
theorem aluOperand_spec {op : AluOp} (hop : op ≠ .cp) {i : Instr} {s : State} {v w : Byte} {z n h c : Bool}
    (hv : AluOperand op i s v) (hr : aluResult op s.regs.a v s.flagC = ⟨w, z, n, h, c⟩) :
    AluBytes op i s v ∧ exec i s = .next (withAF s w z n h c) :=
  ⟨aluBytes_of_aluOperand hv, by rw [exec_of_aluOperand hv, aluApply_eq_withAF hop hr]⟩

/-- Settles O34: the exact sum narrowed is the sum of bytes. -/
theorem addAndAdcStoreTheSum : Obligations.AddAndAdcStoreTheSum := by
  intro i s v
  exact ⟨fun hv => aluOperand_spec (by decide) hv (addResult_false s.regs.a v),
    fun hv => aluOperand_spec (by decide) hv (addResult_eq s.regs.a v s.flagC)⟩

/-- Settles O35: the exact difference narrowed is the difference of bytes; CP drops it. -/
theorem subSbcAndCpBorrow : Obligations.SubSbcAndCpBorrow := by
  intro i s v
  refine ⟨fun hv => aluOperand_spec (by decide) hv (subResult_false s.regs.a v), fun hv => ⟨aluBytes_of_aluOperand hv, ?_⟩,
    fun hv => aluOperand_spec (by decide) hv (subResult_eq s.regs.a v s.flagC)⟩
  rw [exec_of_aluOperand hv, aluApply_cp_eq_withF (subResult_false s.regs.a v)]

/-- Settles O36: XOR is zero where the operands are equal, OR where both are zero. -/
theorem logicSetsFixedFlags : Obligations.LogicSetsFixedFlags := by
  intro i s v
  refine ⟨fun hv => aluOperand_spec (by decide) hv rfl, fun hv => aluOperand_spec (by decide) hv ?_,
    fun hv => aluOperand_spec (by decide) hv ?_⟩
  · simp only [aluResult, logicResult, BitVec.ofNat_eq_ofNat, BitVec.xor_eq_zero_iff]
  · simp only [aluResult, logicResult, BitVec.ofNat_eq_ofNat, BitVec.or_eq_zero_iff]

/-- Settles O37: the operand is written back, then the flags, C as it was. -/
theorem incAndDecKeepCarry : Obligations.IncAndDecKeepCarry := by
  intro i r s
  refine ⟨fun hd => ⟨encode_of_selectorBytes hd rfl, ?_⟩, fun hd => ⟨encode_of_selectorBytes hd rfl, ?_⟩⟩
  · rw [exec_of_descriptor i _ s hd, meaningOf, incR8, incResult_eq, State.setFlags_eq]
    rfl
  · rw [exec_of_descriptor i _ s hd, meaningOf, decR8, decResult_eq, State.setFlags_eq]
    rfl

end Sys2Proof.Machine
end

section
/-! PROOFS for the 16-bit arithmetic family (spec/41_alu16.md): the results of ADD HL,r16 and of SP plus a signed byte (R140,
R143, R170) as words, the next states they give, and INC and DEC of a pair (R141, R142). -/

namespace Sys2Proof.Machine

open Sys2Proof.Claims

/-! ### The results, on values -/

/-- Adding a sign-extended byte modulo 65536 narrows the exact signed sum (R9). -/
theorem add_sext16_eq_ofInt (w : Word) (e : Byte) : w + sext16 e = BitVec.ofInt 16 (w.toNat + e.toInt) := by
  rw [BitVec.ofInt_add, BitVec.ofInt_natCast, BitVec.ofNat_toNat, BitVec.setWidth_eq]
  rfl

theorem addSpResult_eq (sp : Word) (e : Byte) :
    addSpResult sp e = ⟨BitVec.ofInt 16 (sp.toNat + e.toInt), decide (sp.toNat % 16 + e.toNat % 16 > 0xF),
      decide (sp.toNat % 256 + e.toNat > 0xFF)⟩ := by
  rw [addSpResult, add_sext16_eq_ofInt]

theorem addHlResult_eq (hl v : Word) :
    addHlResult hl v = ⟨hl + v, decide (hl.toNat % 0x1000 + v.toNat % 0x1000 > 0x0FFF),
      decide (hl.toNat + v.toNat > 0xFFFF)⟩ := by
  rw [addHlResult, BitVec.ofNat_add, BitVec.ofNat_toNat, BitVec.ofNat_toNat, BitVec.setWidth_eq, BitVec.setWidth_eq]

/-! ### What the instructions do -/

/-- Writing HL, then the flags, changes the registers H, L and F alone. -/
theorem State.setFlags_setPair_hl (s : State) (v : Word) (z n h c : Bool) :
    (s.setPair .hl v).setFlags z n h c =
      { s with regs := { s.regs with h := hiByte v, l := loByte v, f := packFlags z n h c } } := by
  rw [State.setFlags_eq]
  rfl

/-- Settles O33: both instructions narrow one signed sum, to SP or to HL, with the flags of its unsigned low byte. -/
theorem stackPointerPlusOffset : Obligations.StackPointerPlusOffset := by
  intro s e
  have hbytes : EncodedAs [(.add_SP_e8 e, [0xE8, e]), (.ld_HL_SPe8 e, [0xF8, e])] :=
    List.forall_mem_cons.mpr ⟨rfl, List.forall_mem_singleton.mpr rfl⟩
  refine ⟨hbytes, ?_, ?_⟩
  · rw [exec_of_descriptor (.add_SP_e8 e) .addSpE8 s rfl, meaningOf, addSpE8, addSpResult_eq, State.setFlags_eq]
    rfl
  · rw [exec_of_descriptor (.ld_HL_SPe8 e) .ldHlSpE8 s rfl, meaningOf, ldHlSpE8, addSpResult_eq,
      State.setFlags_setPair_hl]
    rfl

/-- Settles O38: the sum is of the old HL and the operand read before the write, Z as it was. -/
theorem addHlCarriesFromBits11And15 : Obligations.AddHlCarriesFromBits11And15 := by
  intro i r s hd
  refine ⟨encode_of_selectorBytes hd rfl, ?_⟩
  rw [exec_of_descriptor i _ s hd, meaningOf, addHlR16, addHlResult_eq, State.setFlags_setPair_hl]
  rfl

/-- Settles O39: one write of the pair, and no other. -/
theorem incAndDecOfPairsTouchNoFlags : Obligations.IncAndDecOfPairsTouchNoFlags := by
  intro i r s
  exact ⟨fun hd => ⟨encode_of_selectorBytes hd rfl, exec_of_descriptor i _ s hd⟩,
    fun hd => ⟨encode_of_selectorBytes hd rfl, exec_of_descriptor i _ s hd⟩⟩

end Sys2Proof.Machine
end

section
/-! PROOFS for the load family (spec/42_loads.md): the immediates of an instruction read back from its bytes (R95), the addresses
and register writes of the loads, and the next state of every form (R150 to R169). -/

namespace Sys2Proof.Machine

open Sys2Proof.Claims

/-! ### The bytes and the immediates -/

/-- A table of encodings checked as one list of bytes against another. -/
theorem encodedAs_of_map_eq {l : List (Instr × List Byte)} (h : l.map (fun p => encode p.1) = l.map Prod.snd) :
    EncodedAs l :=
  List.map_inj_left.mp h

/-- What an instruction with a word immediate does, the word being read low byte first behind the opcode (R95). -/
theorem exec_of_wordImmediate {i : Instr} {d : Descriptor} {op : Byte} {w : Word} (s : State) (hd : i.descriptor = some d)
    (henc : encode i = [op, loByte w, hiByte w]) : exec i s = .next (meaningOf d (byteOf i) w s) := by
  have hw : wordOf i = w := by
    rw [wordOf, henc]
    exact joinBytes_hi_lo w
  rw [exec_of_descriptor i d s hd, hw]

/-- No instruction is `LD (HL),(HL)`: its byte in the grid of LD is HALT's, 0x76 (R152). -/
theorem descriptor_ne_ldR8R8_hlInd_hlInd (i : Instr) : i.descriptor ≠ some (.ldR8R8 .hlInd .hlInd) := by
  intro hd
  have henc : encode i = [0x76] := encode_of_selectorBytes hd rfl
  have hwf : i.wellFormed = true := wellFormed_of_encode (by rw [hd]; rfl) henc (by decide)
  have hdec : decode (encode i ++ []) = .ok (i, []) := decodeOfEncode i [] hwf
  rw [henc] at hdec
  cases hdec
  exact nomatch hd

/-! ### Addresses, and the step of HL -/

/-- The page 0xFF00 has room for every byte, so the address is the exact sum (R163 to R166). -/
theorem highPage_eq_ofNat (n : Byte) : highPage n = BitVec.ofNat 16 (0xFF00 + n.toNat) := by
  rw [BitVec.ofNat_add, BitVec.ofNat_toNat]
  rfl

/-- A store leaves HL as it was, so the step after it is the step before it (R156, R157). -/
theorem State.postStep_busWrite (s : State) (m : R16Mem) (a : Word) (v : Byte) :
    (s.busWrite a v).postStep m = { s.busWrite a v with regs := (s.postStep m).regs } := by
  rw [State.busWrite_shape]
  cases m <;> rfl

/-! ### What the instructions do -/

/-- A store of A through a pair: the step of HL changes the registers alone. -/
theorem exec_of_ldR16memA {i : Instr} {m : R16Mem} (s : State) (hd : i.descriptor = some (.ldR16memA m)) :
    exec i s = .next { s.busWrite (s.memAddr m) s.regs.a with regs := (s.postStep m).regs } := by
  rw [exec_of_descriptor i _ s hd, meaningOf, ldR16memA, State.postStep_busWrite]
  rfl

/-- Settles O28: the one write of the destination, with the source read before it; both memory operands would be HALT. -/
theorem loadsCopyTheSource : Obligations.LoadsCopyTheSource := by
  intro i dst src s hd
  refine ⟨encode_of_selectorBytes hd rfl, ?_, exec_of_descriptor i _ s hd⟩
  rintro ⟨rfl, rfl⟩
  exact descriptor_ne_ldR8R8_hlInd_hlInd i hd

/-- Settles O29: each form is one write through its selector, of the immediate in its bytes. -/
theorem loadsOfImmediates : Obligations.LoadsOfImmediates := by
  intro s n w
  exact ⟨encodedAs_of_map_eq rfl,
    exec_of_descriptor _ (.ldR8N8 .b) s rfl, exec_of_descriptor _ (.ldR8N8 .c) s rfl,
    exec_of_descriptor _ (.ldR8N8 .d) s rfl, exec_of_descriptor _ (.ldR8N8 .e) s rfl,
    exec_of_descriptor _ (.ldR8N8 .h) s rfl, exec_of_descriptor _ (.ldR8N8 .l) s rfl,
    exec_of_descriptor _ (.ldR8N8 .a) s rfl, exec_of_descriptor _ (.ldR8N8 .hlInd) s rfl,
    exec_of_wordImmediate (d := .ldR16N16 .bc) s rfl rfl, exec_of_wordImmediate (d := .ldR16N16 .de) s rfl rfl,
    exec_of_wordImmediate (d := .ldR16N16 .hl) s rfl rfl, exec_of_wordImmediate (d := .ldR16N16 .sp) s rfl rfl⟩

/-- Settles O30: BC and DE stay; a step of HL after a store is by `exec_of_ldR16memA` one of the old HL. -/
theorem loadsThroughPairs : Obligations.LoadsThroughPairs := by
  intro s
  exact ⟨encodedAs_of_map_eq rfl,
    exec_of_descriptor _ (.ldR16memA .bc) s rfl, exec_of_descriptor _ (.ldR16memA .de) s rfl,
    exec_of_ldR16memA (m := .hlInc) s rfl, exec_of_ldR16memA (m := .hlDec) s rfl,
    exec_of_descriptor _ (.ldAR16mem .bc) s rfl, exec_of_descriptor _ (.ldAR16mem .de) s rfl,
    exec_of_descriptor _ (.ldAR16mem .hlInc) s rfl, exec_of_descriptor _ (.ldAR16mem .hlDec) s rfl⟩

/-- Settles O31: a store or a load at the word immediate, or at an address of the page 0xFF00. -/
theorem loadsAtFixedAddresses : Obligations.LoadsAtFixedAddresses := by
  intro s a n
  simp only [← highPage_eq_ofNat]
  exact ⟨encodedAs_of_map_eq rfl,
    exec_of_wordImmediate (d := .ldA16A) s rfl rfl, exec_of_wordImmediate (d := .ldAA16) s rfl rfl,
    exec_of_descriptor _ .ldhA8A s rfl, exec_of_descriptor _ .ldhAA8 s rfl,
    exec_of_descriptor _ .ldhCA s rfl, exec_of_descriptor _ .ldhAC s rfl⟩

/-- Settles O32: two stores at the word immediate, low byte first; one write of SP. -/
theorem loadsOfStackPointer : Obligations.LoadsOfStackPointer := by
  intro s a
  exact ⟨encodedAs_of_map_eq rfl, exec_of_wordImmediate (d := .ldA16Sp) s rfl rfl, exec_of_descriptor _ .ldSpHl s rfl⟩

end Sys2Proof.Machine
end

section
/-! PROOFS for the control family (spec/43_control.md): the targets and the stack accesses of jumps, calls and returns as one
next state each, the conditional forms as tables (R10), and the next state of every form (R180 to R191). -/

namespace Sys2Proof.Machine

open Sys2Proof.Claims

/-! ### What a taken transfer does -/

/-- The push leaves the two bytes below SP (R200). -/
theorem State.push16_eq_pushed (s : State) (v : Word) : s.push16 v = pushed s v := State.push16_eq s v

/-- A relative jump counts from the byte after the instruction, modulo 65536 (R183). -/
theorem jrE8_eq (e : Byte) (s : State) : jrE8 e s = { s with pc := BitVec.ofInt 16 (s.pc.toNat + e.toInt) } := by
  rw [jrE8, add_sext16_eq_ofInt]
  rfl

theorem callA16_eq (a : Word) (s : State) : callA16 a s = { pushed s s.pc with pc := a } := by
  rw [callA16, State.push16_eq_pushed]
  rfl

theorem rstOp_eq (t : Fin 8) (s : State) : rstOp t s = { pushed s s.pc with pc := BitVec.ofNat 16 (8 * t.val) } := by
  rw [rstOp, State.push16_eq_pushed]
  rfl

theorem retOp_eq (s : State) : retOp s = { s with pc := popValue s, sp := s.sp + 2 } := by
  rw [retOp, State.pop16_eq]
  rfl

/-- RETI is RET with IME set in the same update (R190). -/
theorem State.returnFromInterrupt_eq (s : State) :
    s.returnFromInterrupt = { s with pc := popValue s, sp := s.sp + 2, ime := true } := by
  rw [State.returnFromInterrupt, State.pop16_eq]
  rfl

/-! ### Forms by their descriptor and immediate bytes -/

/-- What an instruction does, its immediates being read from the bytes `bs` behind its opcode (R95). -/
theorem exec_of_descriptor_tail {i : Instr} {d : Descriptor} {bs : List Byte} (s : State)
    (h : (i.descriptor, (encode i).tail) = (some d, bs)) :
    exec i s = .next (meaningOf d (bs.getD 0 0) (joinBytes (bs.getD 1 0) (bs.getD 0 0)) s) := by
  obtain ⟨hd, rfl⟩ := Prod.mk.inj h
  have hb : byteOf i = (encode i).tail.getD 0 0 := by simp [byteOf]
  have hw : wordOf i = joinBytes ((encode i).tail.getD 1 0) ((encode i).tail.getD 0 0) := by simp [wordOf]
  rw [exec_of_descriptor i d s hd, hb, hw]

/-- The conditional forms of a transfer to the state `t`: `t` with `taken` set where the condition holds, and otherwise the old
state with `taken` clear. -/
theorem exec_of_condForms {d : Cond → Descriptor} {bs : List Byte} {l : List (Cond × Instr)} {s t : State}
    (hl : l.map (fun p => (p.2.descriptor, (encode p.2).tail)) = l.map (fun p => (some (d p.1), bs)))
    (hm : ∀ cc, meaningOf (d cc) (bs.getD 0 0) (joinBytes (bs.getD 1 0) (bs.getD 0 0)) s =
      if s.cond cc then { t with taken := true } else { s with taken := false }) :
    ∀ p ∈ l, exec p.2 s = .next (if s.cond p.1 then { t with taken := true } else { s with taken := false }) := by
  intro p hp
  rw [exec_of_descriptor_tail s (List.map_inj_left.mp hl p hp), hm]

/-- A restart goes to its vector `w`, the multiple of 8 that its descriptor numbers (R191). -/
theorem exec_of_rst {i : Instr} {w : Word} (s : State)
    (h : ∃ t : Fin 8, i.descriptor = some (.rst t) ∧ BitVec.ofNat 16 (8 * t.val) = w) :
    exec i s = .next { pushed s s.pc with pc := w } := by
  obtain ⟨t, hd, rfl⟩ := h
  rw [exec_of_descriptor i _ s hd, meaningOf, rstOp_eq]

/-! ### What the instructions do -/

/-- Settles O40: the target is the immediate, HL, or the signed sum that `jrE8_eq` narrows. -/
theorem jumpsReplacePc : Obligations.JumpsReplacePc := by
  intro s a e
  refine ⟨encodedAs_of_map_eq rfl, exec_of_wordImmediate (d := .jpA16) s rfl rfl, exec_of_descriptor _ .jpHl s rfl,
    ?_, ?_, ?_⟩
  · rw [← jrE8_eq]
    exact exec_of_descriptor _ .jrE8 s rfl
  · refine exec_of_condForms (d := .jpCcA16) (bs := [loByte a, hiByte a]) (t := s.jump a) rfl fun cc => ?_
    change jpCcA16 cc (joinBytes (hiByte a) (loByte a)) s = _
    rw [joinBytes_hi_lo]
    rfl
  · refine exec_of_condForms (d := .jrCcE8) (bs := [e])
      (t := { s with pc := BitVec.ofInt 16 (s.pc.toNat + e.toInt) }) rfl fun cc => ?_
    change jrCcE8 cc e s = _
    rw [jrCcE8, jrE8_eq]

/-- Settles O41: a call or restart taken is `State.push16_eq_pushed` of PC, then a jump. -/
theorem callsPushTheReturnAddress : Obligations.CallsPushTheReturnAddress := by
  intro s a
  refine ⟨encodedAs_of_map_eq rfl, ?_, ?_, fun p hp => exec_of_rst s ?_⟩
  · rw [← callA16_eq]
    exact exec_of_wordImmediate (d := .callA16) s rfl rfl
  · refine exec_of_condForms (d := .callCcA16) (bs := [loByte a, hiByte a])
      (t := { pushed s s.pc with pc := a }) rfl fun cc => ?_
    change callCcA16 cc (joinBytes (hiByte a) (loByte a)) s = _
    rw [joinBytes_hi_lo, callCcA16, callA16_eq]
  · revert p
    decide

/-- Settles O42: a return taken is the pop of `State.pop16_eq` into PC. -/
theorem returnsPopThePc : Obligations.ReturnsPopThePc := by
  intro s
  refine ⟨encodedAs_of_map_eq rfl, ?_, ?_, ?_⟩
  · rw [← retOp_eq]
    exact exec_of_descriptor _ .ret s rfl
  · rw [← State.returnFromInterrupt_eq]
    exact exec_of_descriptor _ .reti s rfl
  · refine exec_of_condForms (d := .retCc) (bs := [])
      (t := { s with pc := popValue s, sp := s.sp + 2 }) rfl fun cc => ?_
    rw [meaningOf, retCc, retOp_eq]

end Sys2Proof.Machine
end

section
/-! PROOFS for the stack family (spec/44_stack.md): PUSH and POP of a pair as one next state each, and the next state of every
form (R202, R203). -/

namespace Sys2Proof.Machine

open Sys2Proof.Claims

/-! ### What a push and a pop of a pair do -/

/-- A pair written from two bytes takes one in each register (R23). -/
theorem State.setPair_joinBytes (s : State) (p : Pair) (hi lo : Byte) :
    s.setPair p (joinBytes hi lo) = (s.setReg p.hi hi).setReg p.lo lo := by
  rw [State.setPair, hiByte_joinBytes, loByte_joinBytes]

/-- POP loads the pair's registers from the two bytes at SP, which it leaves behind it (R201, R203). -/
theorem popOp_eq (r : R16Stk) (s : State) :
    popOp r s = ((s.setSp (s.sp + 2)).setReg (stkPair r).hi (s.busRead (s.sp + 1))).setReg (stkPair r).lo (s.busRead s.sp) := by
  rw [popOp, State.pop16_eq, State.setPair_joinBytes]

theorem exec_of_push {i : Instr} {r : R16Stk} (s : State) (hd : i.descriptor = some (.push r)) :
    exec i s = .next (pushed s (s.pair (stkPair r))) := by
  rw [exec_of_descriptor i _ s hd, meaningOf, pushOp, State.push16_eq_pushed]

theorem exec_of_pop {i : Instr} {r : R16Stk} (s : State) (hd : i.descriptor = some (.pop r)) :
    exec i s = .next
      (((s.setSp (s.sp + 2)).setReg (stkPair r).hi (s.busRead (s.sp + 1))).setReg (stkPair r).lo (s.busRead s.sp)) := by
  rw [exec_of_descriptor i _ s hd, meaningOf, popOp_eq]

/-! ### What the instructions do -/

/-- Settles O43: the word stored is the pair's two registers, of which the read of F masks the low nibble. -/
theorem pushStoresThePair : Obligations.PushStoresThePair := by
  intro s
  exact ⟨encodedAs_of_map_eq rfl,
    exec_of_push (r := .bc) s rfl, exec_of_push (r := .de) s rfl,
    exec_of_push (r := .hl) s rfl, exec_of_push (r := .af) s rfl⟩

/-- Settles O44: each register of the pair is written with its byte, of which the write of F masks the low nibble. -/
theorem popLoadsThePair : Obligations.PopLoadsThePair := by
  intro s lo hi
  exact ⟨encodedAs_of_map_eq rfl,
    exec_of_pop (r := .bc) s rfl, exec_of_pop (r := .de) s rfl,
    exec_of_pop (r := .hl) s rfl, exec_of_pop (r := .af) s rfl⟩

end Sys2Proof.Machine
end

section
/-! PROOFS for the CPU control family (spec/45_cpu_control.md): the step of an instruction as the end of its meaning's next
state (R215), and the next states of HALT, STOP, NOP, DI and EI (R210 to R214). -/

namespace Sys2Proof.Machine

open Sys2Proof.Claims

/-! ### The end of an instruction -/

/-- An instruction's step, on the next state `u` of its meaning (R300). -/
theorem step_of_exec {s u : State} {i : Instr} {d : Descriptor} {rest : List Byte} (hs : RunsInstr s)
    (hdec : decode (fetchedBytes s) = .ok (i, rest)) (hd : i.descriptor = some d) (hu : exec i (past s i) = .next u) :
    step s = .next (u.finish i s.eiPending) := by
  rw [step_of_runsInstr hs, runInstr, State.fetchInstr_of_decode hdec hd, hu]

/-- Settles O14: the two bits are those that `State.endInstr_isDi` leaves, and its condition is the rule's (R215). -/
theorem pendingEiTakesEffectAfterOneInstruction : Obligations.PendingEiTakesEffectAfterOneInstruction := by
  intro s t u i d rest hs hdec hd hu ht
  rw [step_of_exec hs hdec hd hu, State.finish_of_descriptor i d _ _ hd, State.endInstr_isDi] at ht
  cases ht
  refine ⟨fun hw hdi => ⟨if_pos ⟨hw, hdi⟩, if_pos ⟨hw, hdi⟩⟩, fun h => ?_⟩
  have hn : ¬ (s.eiPending = true ∧ i ≠ .di) := by
    rintro ⟨hw, hdi⟩
    rcases h with hw' | hdi'
    · exact Bool.false_ne_true (hw'.symm.trans hw)
    · exact hdi hdi'
  exact ⟨if_neg hn, if_neg hn⟩

/-! ### What the instructions do -/

/-- Settles O45: STOP, NOP and DI are one update each; EI is the branch that the parameter `ei_delay` takes. -/
theorem stopNopDiEi : Obligations.StopNopDiEi := by
  intro s x
  refine ⟨encodedAs_of_map_eq rfl, exec_of_descriptor _ .stop s rfl, exec_of_descriptor _ .nop s rfl,
    exec_of_descriptor _ .di s rfl, fun hdelay => ?_, fun hdelay => ?_⟩
  · rw [exec_of_descriptor .ei .ei s rfl, meaningOf, eiOp, if_pos hdelay]
  · rw [exec_of_descriptor .ei .ei s rfl, meaningOf, eiOp, if_neg (by rw [hdelay]; exact Bool.false_ne_true)]

/-- Settles O46: each of the three second cases fails one conjunct of the condition that arms the HALT bug. -/
theorem haltSuspendsOrArmsTheBug : Obligations.HaltSuspendsOrArmsTheBug := by
  intro s
  refine ⟨rfl, fun harm => ?_, fun hsuspend => ?_⟩
  · rw [exec_of_descriptor .halt .halt s rfl, meaningOf, haltOp, if_pos harm]
  · have hn : ¬ (s.params.haltBugMode = .reproduce ∧ s.ime = false ∧ s.pend ≠ 0) := by
      rintro ⟨hmode, hime, hpend⟩
      rcases hsuspend with hmode' | hime' | hpend'
      · exact nomatch hmode.symm.trans hmode'
      · exact Bool.false_ne_true (hime.symm.trans hime')
      · exact hpend hpend'
    rw [exec_of_descriptor .halt .halt s rfl, meaningOf, haltOp, if_neg hn]

end Sys2Proof.Machine
end

section
/-! PROOFS for the accumulator family (spec/46_accumulator_misc.md): DAA's corrections as the rows of its table (R230), the
rotates and shifts as bits joined and cut (R234 to R237, R251 to R258), and the next state of every form (R230 to R237). -/

namespace Sys2Proof.Machine

open Sys2Proof.Claims

/-! ### The results, on values -/

/-- After an addition the table adds up the two corrections that R230 makes one after the other: its conditions on A are two
bits, and for each value of them the sums are closed. -/
theorem daaRow_of_addition (c h : Bool) (a : Byte) :
    daaRow false c h a =
      ((if c || decide (a.toNat > 0x99) then 0x60 else 0) + (if h || decide (a.toNat % 16 > 9) then 0x06 else 0),
        c || decide (a.toNat > 0x99)) := by
  have hle (m k : Nat) : m ≤ k ↔ decide (m > k) = false := by rw [decide_eq_false_iff_not]; exact Nat.not_lt.symm
  unfold daaRow
  simp only [hle]
  generalize decide (a.toNat > 0x99) = high, decide (a.toNat % 16 > 9) = low
  revert c h high low
  decide

/-- After a subtraction the table's amounts are the two corrections of R230, negated modulo 256. -/
theorem daaRow_of_subtraction (c h : Bool) (a : Byte) :
    daaRow true c h a = ((if c then 0xA0 else 0) + (if h then 0xFA else 0), c) := by
  cases c <;> cases h <;> rfl

/-- A correction that may be left out (R230), as an amount that may be zero. -/
theorem byte_add_ite (p : Prop) [Decidable p] (a k : Byte) : a + (if p then k else 0) = if p then a + k else a := by
  split
  · rfl
  · exact BitVec.add_zero a

theorem daaResult_eq (a : Byte) (n h c : Bool) :
    daaResult a n h c = (a + (daaRow n c h a).1, (daaRow n c h a).2) := by
  cases n with
  | false =>
    rw [daaRow_of_addition, ← BitVec.add_assoc, byte_add_ite, byte_add_ite]
    rfl
  | true =>
    rw [daaRow_of_subtraction, ← BitVec.add_assoc, byte_add_ite, byte_add_ite]
    have hhigh : a - 0x60 = a + 0xA0 := BitVec.sub_eq_add_neg a 0x60
    have hlow (b : Byte) : b - 0x06 = b + 0xFA := BitVec.sub_eq_add_neg b 0x06
    rw [← hhigh, ← hlow]
    rfl

theorem append_zero_or_zero_append {m n : Nat} (x : BitVec m) (y : BitVec n) : (x ++ 0#n) ||| (0#m ++ y) = x ++ y := by
  rw [BitVec.or_append, BitVec.or_zero, BitVec.zero_or]

theorem byte_shiftLeft_one (v : Byte) : v <<< 1 = v.extractLsb' 0 7 ++ 0#1 := BitVec.shiftLeft_eq_concat_of_lt (by decide)

theorem byte_ushiftRight_one (v : Byte) : v >>> 1 = 0#1 ++ v.extractLsb' 1 7 :=
  BitVec.ushiftRight_eq_extractLsb'_of_lt (by decide)

/-- A bit moved in at the right (R234, R236). -/
theorem shiftLeft_one_or_bitByte (v : Byte) (b : Bool) :
    (v <<< 1) ||| bitByte b = v.extractLsb' 0 7 ++ BitVec.ofBool b := by
  have hb : bitByte b = 0#7 ++ BitVec.ofBool b := by cases b <;> rfl
  rw [byte_shiftLeft_one, hb]
  exact append_zero_or_zero_append _ _

/-- A bit moved in at the left (R235, R237). -/
theorem ushiftRight_one_or_bitByte (v : Byte) (b : Bool) :
    (v >>> 1) ||| (bitByte b <<< 7) = BitVec.ofBool b ++ v.extractLsb' 1 7 := by
  have hb : bitByte b <<< 7 = BitVec.ofBool b ++ 0#7 := by cases b <;> rfl
  rw [byte_ushiftRight_one, hb, BitVec.or_comm]
  exact append_zero_or_zero_append _ _

theorem ofBool_getLsbD (v : Byte) (k : Nat) : BitVec.ofBool (v.getLsbD k) = v.extractLsb' k 1 := by
  have hbit : ∀ b : BitVec 1, BitVec.ofBool (b == 1#1) = b := by decide
  rw [BitVec.getLsbD_eq_extractLsb', hbit]

/-- SRA keeps bit 7 by its mask (R256). -/
theorem and_80_eq_bitByte (v : Byte) : v &&& (0x80 : Byte) = bitByte (v.getLsbD 7) <<< 7 := by
  have hmask : v &&& (0x80 : Byte) = if v.getLsbD 7 then 0x80 else 0 := BitVec.and_twoPow v 7
  rw [hmask]
  cases v.getLsbD 7 <;> rfl

theorem rotResult_eq_rotated (op : RotOp) (v : Byte) (cf : Bool) : rotResult op v cf = rotated op v cf := by
  cases op with
  | rlc => rw [rotResult, rotated, shiftLeft_one_or_bitByte, ofBool_getLsbD]
  | rrc => rw [rotResult, rotated, ushiftRight_one_or_bitByte, ofBool_getLsbD]
  | rl => rw [rotResult, rotated, shiftLeft_one_or_bitByte]
  | rr => rw [rotResult, rotated, ushiftRight_one_or_bitByte]
  | sla => rw [rotResult, rotated, byte_shiftLeft_one]; rfl
  | sra => rw [rotResult, rotated, and_80_eq_bitByte, ushiftRight_one_or_bitByte, ofBool_getLsbD]
  | swap =>
    have hl : v <<< 4 = v.extractLsb' 0 4 ++ 0#4 := BitVec.shiftLeft_eq_concat_of_lt (by decide)
    have hr : v >>> 4 = 0#4 ++ v.extractLsb' 4 4 := BitVec.ushiftRight_eq_extractLsb'_of_lt (by decide)
    rw [rotResult, rotated, hl, hr]
    exact congrArg (·, false) (append_zero_or_zero_append _ _)
  | srl => rw [rotResult, rotated, byte_ushiftRight_one]; rfl

/-! ### What the instructions do -/

/-- Writing A, then the flags, is one update of the registers A and F. -/
theorem State.setFlags_setReg_a (s : State) (v : Byte) (z n h c : Bool) :
    (s.setReg .a v).setFlags z n h c = withAF s v z n h c := by
  rw [State.setFlags_eq]
  rfl

theorem rotA_eq (op : RotOp) (s : State) :
    rotA op s = withAF s (rotated op s.regs.a s.flagC).1 false false false (rotated op s.regs.a s.flagC).2 := by
  rw [rotA, rotResult_eq_rotated, State.setFlags_setReg_a]
  rfl

/-- Settles O47: the two corrections one after the other are the row's one amount. -/
theorem daaFollowsTheTable : Obligations.DaaFollowsTheTable := by
  intro s row
  refine ⟨rfl, ?_⟩
  rw [exec_of_descriptor .daa .daa s rfl, meaningOf, daaOp, daaResult_eq, State.setFlags_setReg_a]
  rfl

/-- Settles O48: CPL writes A and the flags, SCF and CCF the flags alone, each passing Z on. -/
theorem cplScfCcf : Obligations.CplScfCcf := by
  intro s
  refine ⟨encodedAs_of_map_eq rfl, ?_, ?_, ?_⟩
  · rw [exec_of_descriptor .cpl .cpl s rfl, meaningOf, cplOp, State.setFlags_setReg_a]
    rfl
  · rw [exec_of_descriptor .scf .scf s rfl, meaningOf, scfOp, State.setFlags_eq]
    rfl
  · rw [exec_of_descriptor .ccf .ccf s rfl, meaningOf, ccfOp, State.setFlags_eq]
    rfl

/-- Settles O49: each form is `rotA` of its rotate, whose result on values is the bits joined and cut. -/
theorem accumulatorRotatesClearZ : Obligations.AccumulatorRotatesClearZ := by
  intro s
  refine ⟨encodedAs_of_map_eq rfl, ?_⟩
  simp only [← rotA_eq, List.forall_mem_cons]
  exact ⟨exec_of_descriptor _ .rlca s rfl, exec_of_descriptor _ .rrca s rfl,
    exec_of_descriptor _ .rla s rfl, exec_of_descriptor _ .rra s rfl, List.forall_mem_nil _⟩

end Sys2Proof.Machine
end

section
/-! PROOFS for the prefixed family (spec/47_cb_prefix.md): the bits that RES and SET change, and the next state of every form and
of the unresolved escape (R251 to R261). -/

namespace Sys2Proof.Machine

open Sys2Proof.Claims

/-! ### The results, on values -/

/-- A one shifted into place, bit by bit. -/
theorem getLsbD_one_shiftLeft {w b : Nat} (hb : b < w) (k : Nat) : ((1 : BitVec w) <<< b).getLsbD k = decide (k = b) := by
  have hone : (1 : BitVec w) <<< b = BitVec.twoPow w b := rfl
  rw [hone, BitVec.getLsbD_twoPow, decide_eq_true hb, Bool.true_and, decide_eq_decide]
  exact eq_comm

theorem getLsbD_resBit (b : Fin 8) (v : Byte) {k : Nat} (hk : k < 8) :
    (resBit b v).getLsbD k = if k = b.val then false else v.getLsbD k := by
  rw [resBit, BitVec.getLsbD_and, BitVec.getLsbD_not, getLsbD_one_shiftLeft b.isLt, decide_eq_true hk]
  by_cases h : k = b.val <;> simp [h]

theorem getLsbD_setBit (b : Fin 8) (v : Byte) (k : Nat) :
    (setBit b v).getLsbD k = if k = b.val then true else v.getLsbD k := by
  rw [setBit, BitVec.getLsbD_or, getLsbD_one_shiftLeft b.isLt]
  by_cases h : k = b.val <;> simp [h]

/-! ### What the instructions do -/

/-- Settles O50: the result on values is the bits joined and cut, written back before the flags. -/
theorem prefixedRotatesAndShifts : Obligations.PrefixedRotatesAndShifts := by
  intro i op r s hd x
  refine ⟨encode_of_selectorBytes hd rfl, ?_⟩
  rw [exec_of_descriptor i _ s hd, meaningOf, rotR8, rotResult_eq_rotated, State.setFlags_eq]
  rfl

/-- Settles O51: BIT writes the flags alone; RES and SET write back the byte of `getLsbD_resBit` and `getLsbD_setBit`. -/
theorem bitResSetActOnOneBit : Obligations.BitResSetActOnOneBit := by
  intro i b r s
  refine ⟨fun hd => ⟨encode_of_selectorBytes hd rfl, ?bit⟩, fun hd => ⟨encode_of_selectorBytes hd rfl, ?res⟩,
    fun hd => ⟨encode_of_selectorBytes hd rfl, ?set⟩⟩
  case bit =>
    rw [exec_of_descriptor i _ s hd, meaningOf, bitR8, State.setFlags_eq]
    rfl
  case res => exact ⟨resBit b (s.readR8 r), fun _ hk => getLsbD_resBit b _ hk, exec_of_descriptor i _ s hd⟩
  case set => exact ⟨setBit b (s.readR8 r), fun k _ => getLsbD_setBit b _ k, exec_of_descriptor i _ s hd⟩

end Sys2Proof.Machine
end

section
/-! PROOFS for the exceptions family (spec/60_exceptions.md): the branches of the step that run no instruction (R300 to R311),
the host's moves (R331 to R333), and the end of a run (R336). -/

namespace Sys2Proof.Machine

open Sys2Proof.Claims

/-! ### The steps that run no instruction -/

theorem step_of_fault {s : State} {r : DecodeFailure} (h : s.fault = some r) : step s = .fault (.decodeFailure r) := by
  simp only [step, stepOnce, h]

theorem step_of_refused {s : State} (hfault : s.fault = none) (h : s.refused = some .haltBugDispatch) :
    step s = .refused .haltBugDispatch := by
  simp only [step, stepOnce, hfault, h]

theorem step_of_stopped {s : State} (hfault : s.fault = none) (hrefused : s.refused = none) (h : s.stopped = true) :
    step s = .fault .stopped := by
  simp only [step, stepOnce, hfault, hrefused, h, if_true]

/-- Settles O9: the three ways a state has no step, in the order in which the step looks for them. -/
theorem noStepWhileTerminalOrStopped : Obligations.NoStepWhileTerminalOrStopped :=
  fun _ => ⟨fun _ => step_of_fault, step_of_refused, step_of_stopped⟩

/-- No terminal record and not stopped: the core has a step (R300). -/
structure State.HasStep (s : State) : Prop where
  noFault   : s.fault = none
  noRefusal : s.refused = none
  running   : s.stopped = false

theorem step_of_hasStep {s : State} (h : s.HasStep) : step s = runStep s := by
  obtain ⟨hfault, hrefused, hstopped⟩ := h
  simp only [step, stepOnce, hfault, hrefused, hstopped, Bool.false_eq_true, if_false]

/-- A dispatch is due: it is taken, or refused under the HALT bug (R302, R311). -/
theorem step_of_dispatchDue {s : State} {src : Source} (h : s.HasStep) (hime : s.ime = true)
    (hsrc : lowestSource s.pend = some src) :
    step s = .next (if s.haltBug then refuseDispatch s else dispatchStep s src) := by
  rw [step_of_hasStep h, runStep, hime, hsrc, apply_ite Host.Outcome.next]

/-- Settles O10: the push is the two bytes of `pushed`, and the rest is the record's own fields. -/
theorem dispatchSequence : Obligations.DispatchSequence := by
  intro s src hfault hrefused hstopped hime hbug hsrc
  rw [step_of_dispatchDue ⟨hfault, hrefused, hstopped⟩ hime hsrc, hbug, if_neg Bool.false_ne_true, dispatchStep,
    State.dispatch, State.push16_eq_pushed]
  rfl

theorem exists_lowestSource {p : BitVec 5} (h : p ≠ 0) : ∃ src, lowestSource p = some src :=
  Option.ne_none_iff_exists'.mp (mt (lowestSource_none p).mp h)

/-- Settles O12: the dispatch due is refused, and the record it leaves ends the core. -/
theorem dispatchUnderHaltBugIsRefused : Obligations.DispatchUnderHaltBugIsRefused := by
  intro s hfault hrefused hstopped hime hbug hpend
  obtain ⟨src, hsrc⟩ := exists_lowestSource hpend
  refine ⟨refuseDispatch s, ?_, rfl, step_of_refused (s := refuseDispatch s) hfault rfl⟩
  rw [step_of_dispatchDue ⟨hfault, hrefused, hstopped⟩ hime hsrc, hbug, if_pos rfl]

/-- With no source to dispatch `halted` decides, whatever IME is (R300, R305). -/
theorem runStep_of_noSource {s : State} (h : lowestSource s.pend = none) :
    runStep s = if s.halted then .next (idleStep s) else runInstr s := by
  unfold runStep
  rw [h]
  cases s.ime <;> rfl

/-- Settles O13: nothing pending leaves no source to dispatch. -/
theorem haltedCoreIdles : Obligations.HaltedCoreIdles := by
  intro s hfault hrefused hstopped hhalted hpend
  rw [step_of_hasStep ⟨hfault, hrefused, hstopped⟩, runStep_of_noSource ((lowestSource_none _).mpr hpend), if_pos hhalted]
  rfl

/-- The source taken is the lowest set bit of the pending set (R303). -/
theorem lowestSource_eq_some (p : BitVec 5) (src : Source) :
    lowestSource p = some src ↔ p.getLsbD src.bit = true ∧ ∀ k < src.bit, p.getLsbD k = false := by
  cases src <;> revert p <;> decide

/-- Settles O11: the pending set bit by bit, and the source by `lowestSource_none` and `lowestSource_eq_some`. -/
theorem pendingSourceIsLowestBit : Obligations.PendingSourceIsLowestBit := by
  refine ⟨fun s k hk => ?_, lowestSource_none, lowestSource_eq_some⟩
  rw [State.pend, BitVec.getLsbD_and, BitVec.getLsbD_setWidth, decide_eq_true hk, Bool.true_and]

/-! ### The host's moves -/

theorem getLsbD_raiseSource (f : BitVec 5) (src : Source) (k : Nat) :
    (raiseSource f src).getLsbD k = (f.getLsbD k || k == src.bit) := by
  have hbit : src.bit < 5 := by cases src <;> decide
  have hbeq : (k == src.bit) = decide (k = src.bit) := rfl
  rw [raiseSource, BitVec.getLsbD_or, getLsbD_one_shiftLeft hbit, hbeq]

/-- The joypad byte is in the I/O range: no echo mirrors it, no external owner holds it, and it is not the boot switch. -/
theorem State.not_seenBy_joypad (s : State) {b : Word} (hb : b ≠ 0xFF00) : ¬ s.seenBy 0xFF00 b := by
  have hio : ownerOf false 0xFF00 = .io := by decide
  have hmirror : ownerOf false (0xFF00 + 0x2000) ≠ .echo := by decide
  rintro (h | ⟨-, ⟨h, rfl⟩ | ⟨h, -⟩⟩ | ⟨h, -⟩ | ⟨h, -⟩ | ⟨h, -⟩)
  · exact hb h
  · exact hmirror h
  · exact nomatch hio.symm.trans h
  · exact nomatch hio.symm.trans h
  · exact nomatch hio.symm.trans h
  · exact absurd h (by decide)

/-- Settles O58: the request by its bits, the joypad setter as the bus write of 0xFF00 that it is, the wake by definition. -/
theorem hostMovesTouchOnlyTheirState : Obligations.HostMovesTouchOnlyTheirState := by
  intro s
  have hjoypad (v : Byte) : (HostMove.joypad v).apply s = s.busWrite 0xFF00 v := rfl
  refine ⟨fun src => ⟨raiseSource s.intFlag src, rfl, fun k _ => getLsbD_raiseSource _ _ k⟩, fun v => ⟨?_, ?_, _, rfl⟩,
    rfl⟩
  · exact (busReadAfterWrite s 0xFF00 v).1 (by decide)
  · intro b hb
    rw [hjoypad]
    exact busWriteLeavesOtherAddresses s 0xFF00 b v (s.not_seenBy_joypad hb)

/-! ### The end of a run -/

/-- A stopped run that has ended has no step. -/
theorem State.Ended.step_of_stopped {s : State} (h : s.Ended) (hs : s.stopped = true) : step s = .fault .stopped := by
  obtain ⟨hfault, hrefused, -⟩ := h
  exact Machine.step_of_stopped hfault hrefused hs

/-- A running core that has ended idles. -/
theorem State.Ended.step_of_running {s : State} (h : s.Ended) (hs : s.stopped = false) :
    step s = .next { s with report := some (.idle s.params.haltIdleCycles) } := by
  obtain ⟨hfault, hrefused, ⟨hhalted, hpend⟩ | hstopped⟩ := h
  · exact haltedCoreIdles s hfault hrefused hs hhalted hpend
  · exact absurd (hs.symm.trans hstopped) Bool.false_ne_true

/-- A step from an ended state changes at most the report. -/
theorem State.Ended.apply_step {s : State} (h : s.Ended) : ∃ r, Move.step.apply s = { s with report := r } := by
  by_cases hs : s.stopped = true
  · exact ⟨s.report, by simp only [Move.apply, h.step_of_stopped hs]⟩
  · exact ⟨_, by simp only [Move.apply, h.step_of_running (eq_false_of_ne_true hs)]; rfl⟩

/-- No host move but the wake touches `stopped` (R331 to R333). -/
theorem HostMove.apply_stopped {m : HostMove} (h : m ≠ .wake) (s : State) : (m.apply s).stopped = s.stopped := by
  cases m with
  | raise | joypad => rfl
  | wake => exact absurd rfl h

/-- The state at which a run has ended is an ended state, whatever moves follow. -/
theorem RunEnded.ended {launch : State} {moves : Nat → Move} {n : Nat} (h : RunEnded launch moves n) :
    (runState launch moves n).Ended := by
  obtain ⟨hfault, hrefused, ⟨hhalted, hpend, -⟩ | ⟨hstopped, -⟩⟩ := h
  · exact ⟨hfault, hrefused, .inl ⟨hhalted, hpend⟩⟩
  · exact ⟨hfault, hrefused, .inr hstopped⟩

/-- Where no host move follows, an end state stands but for the report. -/
theorem runState_of_ended {launch : State} {moves : Nat → Move} {n : Nat} (h : (runState launch moves n).Ended)
    (hmoves : NoHostMove moves n) (j : Nat) :
    ∃ r, runState launch moves (n + j) = { runState launch moves n with report := r } := by
  induction j with
  | zero => exact ⟨_, rfl⟩
  | succ j ih =>
    obtain ⟨r, hr⟩ := ih
    obtain ⟨r', hr'⟩ := State.Ended.apply_step (s := { runState launch moves n with report := r }) h
    refine ⟨r', ?_⟩
    show (moves (n + j)).apply (runState launch moves (n + j)) = _
    rw [hmoves _ (Nat.le_add_right n j), hr, hr']

/-- The condition of R336 is kept by every later move: a step stands still, and the host moves that may follow leave `stopped`
and the records alone. -/
theorem RunEnded.succ {launch : State} {moves : Nat → Move} {n : Nat} (h : RunEnded launch moves n) :
    RunEnded launch moves (n + 1) := by
  have hlate {k : Nat} (hk : n + 1 ≤ k) : n ≤ k := Nat.le_of_succ_le hk
  have hnext : runState launch moves (n + 1) = (moves n).apply (runState launch moves n) := rfl
  cases hmove : moves n with
  | step =>
    obtain ⟨r, hr⟩ := h.ended.apply_step
    obtain ⟨hfault, hrefused, hend⟩ := h
    unfold RunEnded
    rw [hnext, hmove, hr]
    exact ⟨hfault, hrefused, hend.imp (fun ⟨hh, hp, hm⟩ => ⟨hh, hp, fun k hk => hm k (hlate hk)⟩)
      (fun ⟨hs, hm⟩ => ⟨hs, fun k hk => hm k (hlate hk)⟩)⟩
  | host m =>
    obtain ⟨hfault, hrefused, ⟨-, -, hm⟩ | ⟨hstopped, hm⟩⟩ := h
    · exact nomatch hmove.symm.trans (hm n (Nat.le_refl n))
    · have hwake : m ≠ .wake := fun e => hm n (Nat.le_refl n) (hmove.trans (congrArg Move.host e))
      unfold RunEnded
      rw [hnext, hmove]
      exact ⟨(m.apply_fault _).trans hfault, (m.apply_refused _).trans hrefused,
        .inr ⟨(HostMove.apply_stopped hwake _).trans hstopped, fun k hk => hm k (hlate hk)⟩⟩

theorem RunEnded.of_le {launch : State} {moves : Nat → Move} {n k : Nat} (h : RunEnded launch moves n) (hk : n ≤ k) :
    RunEnded launch moves k := by
  induction hk with
  | refl => exact h
  | step _ ih => exact ih.succ

/-- A state without a terminal record has none before it: no move undoes a record (R310, R311). -/
theorem noRecord_of_apply {m : Move} {s : State} (hf : (m.apply s).fault = none) (hr : (m.apply s).refused = none) :
    s.fault = none ∧ s.refused = none := by
  rcases m.apply_cases s with ⟨-, h⟩ | ⟨-, -, h⟩ | ⟨m, -, h⟩
  · obtain ⟨⟨hfault, hrefused, -⟩, -⟩ := step_cases h
    exact ⟨hfault, hrefused⟩
  · rw [h] at hf hr
    exact ⟨hf, hr⟩
  · rw [h, HostMove.apply_fault] at hf
    rw [h, HostMove.apply_refused] at hr
    exact ⟨hf, hr⟩

theorem noRecord_of_le {launch : State} {moves : Nat → Move} {n k : Nat} (hk : k ≤ n)
    (h : (runState launch moves n).fault = none ∧ (runState launch moves n).refused = none) :
    (runState launch moves k).fault = none ∧ (runState launch moves k).refused = none := by
  induction hk with
  | refl => exact h
  | step _ ih => exact ih (noRecord_of_apply h.1 h.2)

/-- A run that ends reaches no terminal state: none after its end, where its condition stands, and so none before it. -/
theorem RunEnded.not_reachesTerminal {launch : State} {moves : Nat → Move} {n : Nat} (h : RunEnded launch moves n) :
    ¬ RunReachesTerminal launch moves := by
  rintro ⟨k, hk⟩
  obtain ⟨hfault, hrefused, -⟩ := h.of_le (Nat.le_max_left n k)
  obtain ⟨hf, hr⟩ := noRecord_of_le (Nat.le_max_right n k) ⟨hfault, hrefused⟩
  exact hk.elim (fun hk => hk hf) (fun hk => hk hr)

/-- Settles O60: an ended state's step, the first moment that meets the condition, and the condition kept from there on. -/
theorem endedStateStands : Obligations.EndedStateStands := by
  refine ⟨fun s h => ⟨h.step_of_stopped, h.step_of_running⟩, fun launch moves => ⟨?_, ?_, ?_⟩⟩
  · rintro t u ⟨n, hn, rfl⟩ ⟨k, hk, rfl⟩
    rw [hn.unique hk]
  · rintro t ⟨n, hn, -⟩
    exact hn.1.not_reachesTerminal
  · intro n k hn hmoves hk
    obtain ⟨j, rfl⟩ := Nat.exists_eq_add_of_le hk
    exact runState_of_ended hn.1.ended hmoves j

end Sys2Proof.Machine
end

section
/-! PROOFS for the reset and hazards family (spec/70_reset_and_hazards.md): the default cycle table (R350, R351) and the invariant
of the launch states (R41, R342). -/

namespace Sys2Proof

/-! ### The default cycle table -/

/-- The row of R350's table that the fields of an instruction's bytes name (R96). -/
def fieldsRow : List Byte → CycleRow
  | [] => .always 0
  | op :: rest =>
    if op = 0xCB then (decodeFields (rest.headD 0) true).cycleRow else (decodeFields op false).cycleRow

theorem getD_map_range_256 {α : Type} (f : Byte → α) (op : Byte) (x : α) :
    ((List.range 256).map fun k => f (BitVec.ofNat 8 k)).getD op.toNat x = f op := by
  have hlt : op.toNat < 256 := op.isLt
  simp [List.getD_eq_getElem?_getD, hlt]

/-- The default table lists at each byte the row of what the byte decodes to. -/
theorem CycleTable.row_default (bs : List Byte) : CycleTable.default.row bs = fieldsRow bs := by
  cases bs with
  | nil => rfl
  | cons op rest =>
    unfold CycleTable.row fieldsRow CycleTable.default
    dsimp only
    rw [getD_map_range_256 (fun b => (decodeFields b true).cycleRow),
      getD_map_range_256 (fun b => (decodeFields b false).cycleRow)]

/-- The default cycles of a table word, without a lookup in the default table. -/
def defaultCycles (taken : Bool) (word : Option Instr) : Nat :=
  (word.map fun i => (fieldsRow (encode i)).count (taken || !i.conditional)).getD 0

theorem defaultCycles_eq (taken : Bool) (word : Option Instr) :
    defaultCycles taken word = (word.map (·.cycles CycleTable.default taken)).getD 0 := by
  simp only [defaultCycles, Instr.cycles, CycleTable.row_default]

/-- The values of `f` from `k` on, in `n` rows of 32, are the entries of the list. -/
def RowsAgree (f : Nat → Nat) (k : Nat) : Nat → List Nat → Prop
  | 0, l => l = []
  | n + 1, l => (List.range' k 32).map f = l.take 32 ∧ RowsAgree f (k + 32) n (l.drop 32)

theorem map_range'_of_rowsAgree {f : Nat → Nat} {k n : Nat} {l : List Nat} (h : RowsAgree f k n l) :
    (List.range' k (32 * n)).map f = l := by
  induction n generalizing k l with
  | zero => exact h.symm
  | succ n ih =>
    obtain ⟨hrow, hrest⟩ := h
    rw [Nat.mul_succ, Nat.add_comm, ← List.range'_append_1, List.map_append, hrow, ih hrest, List.take_append_drop]

/-- A column of the table is checked row by row. -/
theorem map_cycles_of_rowsAgree {word : Nat → Option Instr} {taken : Bool} {l : List Nat}
    (h : RowsAgree (fun k => defaultCycles taken (word k)) 0 8 l) :
    (List.range 256).map (fun k => ((word k).map (·.cycles CycleTable.default taken)).getD 0) = l := by
  simp only [← defaultCycles_eq, List.range_eq_range']
  exact map_range'_of_rowsAgree h

/-- Settles O27, column by column: what each row's words are encoded in, and the fields of those bytes. -/
theorem cyclesMatchTheTable : Obligations.CyclesMatchTheTable := by
  refine ⟨map_cycles_of_rowsAgree ?notTaken, map_cycles_of_rowsAgree ?taken, map_cycles_of_rowsAgree ?behindEscape⟩
  case notTaken => exact ⟨rfl, rfl, rfl, rfl, rfl, rfl, rfl, rfl, rfl⟩
  case taken => exact ⟨rfl, rfl, rfl, rfl, rfl, rfl, rfl, rfl, rfl⟩
  case behindEscape => exact ⟨rfl, rfl, rfl, rfl, rfl, rfl, rfl, rfl, rfl⟩

end Sys2Proof

namespace Sys2Proof.Machine

/-! ### The launch states -/

theorem State.inv_powerOn {d : Draw} (hmem : Memory.wf d.mem = true)
    (howned : ∀ c ∈ d.mem, 0xC000 ≤ c.1 ∧ c.1 ≤ 0xFFFE ∧ c.1 ≠ 0xFF0F) (hboot : Memory.wf d.bootRom = true)
    (hcart : Memory.rising d.cart.image = true) (hvram : Memory.rising d.vram.image = true) : (State.powerOn d).Inv :=
  ⟨and_F0_and_0F d.regs.f, State.oneWait_of_awake rfl, hmem, howned, hboot, hcart, hvram⟩

/-- The post-boot profile fixes the registers and leaves the memories as they are at power-on (R342). -/
theorem State.inv_postBoot {d : Draw} (h : (State.powerOn d).Inv) : (State.postBoot d).Inv :=
  { h with flags := (by decide : (0xB0 : Byte) &&& 0x0F = 0) }

/-- Settles O3: reset is the power-on of zero draws, whose memories are empty. -/
theorem invariantHoldsAtPowerOn : Obligations.InvariantHoldsAtPowerOn :=
  ⟨State.inv_powerOn (d := Draw.zero) rfl (fun _ h => nomatch h) rfl rfl rfl,
    fun _ hmem howned hboot hcart hvram =>
      have h := State.inv_powerOn hmem howned hboot hcart hvram
      ⟨h, State.inv_postBoot h⟩⟩

end Sys2Proof.Machine
end

section
/-! PROOFS for the frames of the instructions: the registers (R20) and each piece of the control state (R26, R30 to R38) that an
instruction's rule does not name. -/

namespace Sys2Proof.Machine

open Sys2Proof.Claims

/-! ### Registers -/

theorem reg_keptByOps {R : List Reg} {r : Reg} (hr : r ∉ R) (v : Byte) : KeptByOps R (fun s => s.regs.get r = v) where
  setReg {s x} w hx h := (Regs.get_put_ne s.regs w (fun e : r = x => hr (e ▸ hx))).trans h
  busWrite a w h := by simpa using h
  flow _ h := h

theorem meaningOf_reg {d : Descriptor} {r : Reg} (hr : r ∉ destRegs d) (n : Byte) (a : Word) (s : State) :
    (meaningOf d n a s).regs.get r = s.regs.get r :=
  meaningOf_keeps d n a s (reg_keptByOps hr (s.regs.get r)) (fun _ => congrArg (Regs.get · r) (haltOp_regs s))
    (fun _ => rfl) rfl

/-- Settles O54: the writes of an instruction are of its destinations; an unmapped byte's record leaves the registers alone. -/
theorem registerFrame : Obligations.RegisterFrame := by
  intro i s t r h hr
  rcases exec_cases i s with ⟨d, hd, e⟩ | ⟨op, _, e⟩ <;> (rw [e] at h; cases h)
  · exact meaningOf_reg (hr d hd) _ _ s
  · rfl

/-! ### The waits and the records -/

theorem waits_keptByOps (R : List Reg) (b c : Bool) : KeptByOps R (fun s => s.halted = b ∧ s.haltBug = c) where
  setReg _ _ h := h
  busWrite a v h := by simpa using h
  flow _ h := h

/-- Only HALT suspends the core or arms the HALT bug (R210). -/
theorem meaningOf_waits {d : Descriptor} (hd : d ≠ .halt) (n : Byte) (a : Word) (s : State) :
    (meaningOf d n a s).halted = s.halted ∧ (meaningOf d n a s).haltBug = s.haltBug :=
  meaningOf_keeps d n a s (waits_keptByOps _ s.halted s.haltBug) (fun h => absurd h hd) (fun _ => ⟨rfl, rfl⟩) ⟨rfl, rfl⟩

theorem records_keptByOps (R : List Reg) (f : Option DecodeFailure) (r : Option RefusalReason) (p : Option Report) :
    KeptByOps R (fun s => s.fault = f ∧ s.refused = r ∧ s.report = p) where
  setReg _ _ h := h
  busWrite a v h := by simpa using h
  flow _ h := h

/-- No descriptor's operation writes a terminal record or the report (R310, R311, R335). -/
theorem meaningOf_records (d : Descriptor) (n : Byte) (a : Word) (s : State) :
    (meaningOf d n a s).fault = s.fault ∧ (meaningOf d n a s).refused = s.refused ∧
      (meaningOf d n a s).report = s.report :=
  meaningOf_keeps d n a s (records_keptByOps _ s.fault s.refused s.report)
    (fun _ => iteInduction (motive := fun t : State => t.fault = s.fault ∧ t.refused = s.refused ∧ t.report = s.report)
      (fun _ => ⟨rfl, rfl, rfl⟩) (fun _ => ⟨rfl, rfl, rfl⟩))
    (fun _ => ⟨rfl, rfl, rfl⟩) ⟨rfl, rfl, rfl⟩

/-! ### SP, IME and the pending EI -/

theorem meaningOf_sp {d : Descriptor} (hd : writesSp d = false) (n : Byte) (a : Word) (s : State) :
    (meaningOf d n a s).sp = s.sp := by
  cases d with
  | ldR8R8 r _ | ldR8N8 r | incR8 r | decR8 r | rot _ r | res _ r | set _ r => exact s.writeR8_sp r _
  | ldR16N16 r | incR16 r | decR16 r =>
    cases r with
    | sp => exact nomatch hd
    | _ => rfl
  | ldR16memA m => exact (State.postStep_sp _ m).trans (s.busWrite_sp _ _)
  | ldAR16mem m => exact State.postStep_sp _ m
  | ldA16A | ldhA8A | ldhCA => exact s.busWrite_sp _ _
  | ldA16Sp => exact (State.busWrite_sp _ _ _).trans (s.busWrite_sp _ _)
  | aluR8 op _ | aluN8 op => cases op <;> rfl
  | halt | ei | jpCcA16 | jrCcE8 =>
    exact iteInduction (motive := fun t : State => t.sp = s.sp) (fun _ => rfl) (fun _ => rfl)
  | ldSpHl | addSpE8 | push | pop | callA16 | callCcA16 | ret | retCc | reti | rst => exact nomatch hd
  | _ => rfl

/-- IME and the pending EI. -/
def State.enables (s : State) : Bool × Bool := (s.ime, s.eiPending)

theorem State.busWrite_enables (s : State) (a : Word) (v : Byte) : (s.busWrite a v).enables = s.enables := by
  rw [State.busWrite_shape]
  rfl

theorem State.writeR8_enables (s : State) (r : R8) (v : Byte) : (s.writeR8 r v).enables = s.enables := by
  cases r with
  | hlInd => exact s.busWrite_enables s.hl v
  | _ => rfl

theorem State.push16_enables (s : State) (v : Word) : (s.push16 v).enables = s.enables := by
  rw [State.push16_eq]
  exact (State.busWrite_enables _ _ _).trans (s.busWrite_enables _ _)

theorem State.postStep_enables (s : State) (m : R16Mem) : (s.postStep m).enables = s.enables := by
  cases m <;> rfl

/-- Only DI, EI and RETI write IME or the pending EI (R190, R213, R214). -/
theorem meaningOf_enables {d : Descriptor} (hdi : d ≠ .di) (hei : d ≠ .ei) (hreti : d ≠ .reti) (n : Byte) (a : Word)
    (s : State) : (meaningOf d n a s).enables = s.enables := by
  cases d with
  | di => exact absurd rfl hdi
  | ei => exact absurd rfl hei
  | reti => exact absurd rfl hreti
  | ldR8R8 r _ | ldR8N8 r | incR8 r | decR8 r | rot _ r | res _ r | set _ r => exact s.writeR8_enables r _
  | ldR16N16 r | incR16 r | decR16 r => cases r <;> rfl
  | ldR16memA m => exact (State.postStep_enables _ m).trans (s.busWrite_enables _ _)
  | ldAR16mem m => exact State.postStep_enables _ m
  | ldA16A | ldhA8A | ldhCA => exact s.busWrite_enables _ _
  | ldA16Sp => exact (State.busWrite_enables _ _ _).trans (s.busWrite_enables _ _)
  | aluR8 op _ | aluN8 op => cases op <;> rfl
  | callA16 | rst | push => exact s.push16_enables _
  | callCcA16 =>
    exact iteInduction (motive := fun t : State => t.enables = s.enables) (fun _ => s.push16_enables s.pc) (fun _ => rfl)
  | halt | jpCcA16 | jrCcE8 | retCc =>
    exact iteInduction (motive := fun t : State => t.enables = s.enables) (fun _ => rfl) (fun _ => rfl)
  | _ => rfl

theorem meaningOf_ime {d : Descriptor} (h : d ≠ .di ∧ d ≠ .ei ∧ d ≠ .reti) (n : Byte) (a : Word) (s : State) :
    (meaningOf d n a s).ime = s.ime := by
  obtain ⟨hdi, hei, hreti⟩ := h
  exact congrArg Prod.fst (meaningOf_enables hdi hei hreti n a s)

/-- RETI sets IME and leaves the pending EI. -/
theorem meaningOf_eiPending {d : Descriptor} (h : d ≠ .di ∧ d ≠ .ei) (n : Byte) (a : Word) (s : State) :
    (meaningOf d n a s).eiPending = s.eiPending := by
  obtain ⟨hdi, hei⟩ := h
  by_cases hreti : d = .reti
  · subst hreti
    rfl
  · exact congrArg Prod.snd (meaningOf_enables hdi hei hreti n a s)

/-! ### IE, IF and the boot flag -/

theorem State.busWrite_ie_of_ne (s : State) {a : Word} (v : Byte) (h : a ≠ 0xFFFF) : (s.busWrite a v).ie = s.ie := by
  rcases address_cases a with ⟨ha, _⟩ | ⟨ha, _⟩ | rfl | rfl | ha
  · rw [State.busWrite_of_cart s v ha]
  · rw [State.busWrite_of_vram s v ha]
  · rw [State.busWrite_intFlag]
  · exact absurd rfl h
  · rw [State.busWrite_of_isFlat s v ha, State.memWrite_ie]

theorem State.busWrite_intFlag_of_ne (s : State) {a : Word} (v : Byte) (h : a ≠ 0xFF0F) :
    (s.busWrite a v).intFlag = s.intFlag := by
  rcases address_cases a with ⟨ha, _⟩ | ⟨ha, _⟩ | rfl | rfl | ha
  · rw [State.busWrite_of_cart s v ha]
  · rw [State.busWrite_of_vram s v ha]
  · exact absurd rfl h
  · rw [State.busWrite_intEnable]
  · rw [State.busWrite_of_isFlat s v ha, State.memWrite_intFlag]

theorem State.busWrite_bootMapped_of_ne (s : State) {a : Word} (v : Byte) (h : a ≠ 0xFF50) :
    (s.busWrite a v).bootMapped = s.bootMapped := by
  rw [State.busWrite_bootMapped, decide_eq_true h, Bool.and_true]

/-- What only a write at `a` can change in the bus, stores elsewhere leave alone. -/
theorem State.StoresTo.keeps {α : Type} {f : State → α} {a : Word} (hbus : ∀ u : State, f u.bus = f u)
    (hwrite : ∀ (u : State) {w : Word} (v : Byte), w ≠ a → f (u.busWrite w v) = f u) {s t : State} {ws : List Word}
    (h : s.StoresTo ws t) (ha : a ∉ ws) : f t = f s := by
  induction h with
  | @nil s t h => rw [← hbus t, h, hbus]
  | @cons s t w ws v _ ih =>
    obtain ⟨hw, hrest⟩ := List.ne_and_not_mem_of_not_mem_cons ha
    exact (ih hrest).trans (hwrite s v hw.symm)

/-! ### The control state -/

/-- Settles O56: each piece by its own lemma for a descriptor's operation; an unmapped byte writes its record alone. -/
theorem controlStateFrame : Obligations.ControlStateFrame := by
  intro i s t h
  have hstores := exec_storesTo h
  have hie (hs : (0xFFFF : Word) ∉ stores i s) : t.ie = s.ie := hstores.keeps (fun _ => rfl) State.busWrite_ie_of_ne hs
  have hif (hs : (0xFF0F : Word) ∉ stores i s) : t.intFlag = s.intFlag :=
    hstores.keeps (fun _ => rfl) State.busWrite_intFlag_of_ne hs
  have hboot (hs : (0xFF50 : Word) ∉ stores i s) : t.bootMapped = s.bootMapped :=
    hstores.keeps (fun _ => rfl) State.busWrite_bootMapped_of_ne hs
  obtain ⟨hparams, hrom, hcart, hvram, -, -⟩ := exec_suppliesKept h
  rcases exec_cases i s with ⟨d, hd, e⟩ | ⟨op, rfl, e⟩ <;> (rw [e] at h; cases h)
  · obtain ⟨hfault, hrefused, hreport⟩ := meaningOf_records d (byteOf i) (wordOf i) s
    exact ⟨fun hsp => meaningOf_sp (hsp d hd) _ _ s, fun hime => meaningOf_ime (hime d hd) _ _ s,
      fun hei => meaningOf_eiPending (hei d hd) _ _ s, fun hhalt => meaningOf_waits (hhalt d hd) _ _ s,
      fun hstop => meaningOf_stopped (hstop d hd) _ _ s, fun _ => hfault, hie, hif, hboot,
      hrefused, hparams, hreport, hrom, hcart, hvram⟩
  · exact ⟨fun _ => rfl, fun _ => rfl, fun _ => rfl, fun _ => ⟨rfl, rfl⟩, fun _ => rfl, fun hd => absurd rfl hd,
      hie, hif, hboot, rfl, hparams, rfl, hrom, hcart, hvram⟩

end Sys2Proof.Machine
end
